-- ==== Sys2Proof/Word.lean ====
section
/-! DEFINITION. The two word types of the block (R10): a Byte is 8 bits, a Word (an Address) is 16 bits. -/

namespace Sys2Proof

/-- `Byte` of R10: 8 bits, every memory cell and the registers A, X, Y, SP. -/
abbrev Byte := BitVec 8

/-- `Word` = `Address` of R10: 16 bits, PC and every address. -/
abbrev Word := BitVec 16

end Sys2Proof
end

