-- ==== Sys2Proof/Machine/Bits.lean ====
section
/-! DEFINITION. Byte order, bit-field and extension helpers (the notation of R10). -/

namespace Sys2Proof

/-- `w[7:0]` (R10). -/
def loByte (w : Word) : Byte := w.extractLsb' 0 8

/-- `w[15:8]` (R10). -/
def hiByte (w : Word) : Byte := w.extractLsb' 8 8

/-- `{hi, lo}` = hi*256 + lo (R10). -/
def mkWord (hi lo : Byte) : Word := hi ++ lo

/-- `zext_16(b)`: the same numeric value in 16 bits (R10). -/
def zext16 (b : Byte) : Word := b.setWidth 16

/-- `sext_16(b)`: `b` if `b < 128`, else `b + 0xFF00` (R10). -/
def sext16 (b : Byte) : Word := b.signExtend 16

/-- `v[k]`: bit `k` of a Byte, bit 0 the least significant (R10). -/
def bitAt (v : Byte) (k : Nat) : Bool := v.getLsbD k

end Sys2Proof
end

