-- ==== Sys2Proof/Config.lean ====
section
/-! DEFINITION. The parameters the block fixes (R5), and the byte an unlisted memory cell reads as. -/

namespace Sys2Proof.Config

/-- First address of the region RAM (R5, R51). -/
def ramStart : Nat := 0x0000
/-- Size of the region RAM (R5, R51): addresses 0x0000-0x07FF. -/
def ramSize : Nat := 0x0800
/-- First address of the region "Program ROM" (R5, R51). -/
def romStart : Nat := 0x8000
/-- Size of the region "Program ROM" (R5, R51): addresses 0x8000-0xFFFF. -/
def romSize : Nat := 0x8000

/-- The NMI vector cell pair (R5, R65): an ordinary pair of cells, never read by the block. -/
def nmiVector : Word := 0xFFFA#16
/-- The reset vector cell pair (R5, R65), read by start and written by Load. -/
def resetVector : Word := 0xFFFC#16
/-- The IRQ/BRK vector cell pair (R5, R65): an ordinary pair of cells, never read by the block. -/
def irqBrkVector : Word := 0xFFFE#16

/-- LOAD_ENTRY of R5: the value Load writes to the reset vector, and the base Load copies to (R262). -/
def loadEntry : Word := 0x8000#16

/-- STACK_PAGE of R5: the stack is the 256 cells 0x0100-0x01FF (R61). -/
def stackPage : Word := 0x0100#16

/-- What a mapped cell that the memory list does not list reads as.
DESIGN CHOICE (notes/assumptions/1.md), unsafe: the spec leaves the initial content open (`InitMem`, R7).
Every `InitMem` is a list of cells over this byte, so a statement about every state is one about every
`InitMem`; only a statement about `State.reset` itself rests on this byte. -/
def unlistedByte : Byte := 0x00#8

end Sys2Proof.Config
end

