-- ==== Sys2Proof/Syntax.lean ====
section
/-! DEFINITION. The instructions: one constructor per row of the opcode table (R86), 151 of them, each
carrying its raw operand bytes as the decoder assembles them (R83). A constructor's name is its mnemonic
followed by its format (R81); a one-byte instruction of format IMP has the bare mnemonic. -/

namespace Sys2Proof

/-- A decoded instruction: a row of R86 with its operand, `op8` a Byte, `op16` a Word (R83).
Every operand value is legal (R89), so every term is an instruction. -/
inductive Instr where
  -- LDA (R130)
  | ldaImm (op8 : Byte)
  | ldaZp (op8 : Byte)
  | ldaZpx (op8 : Byte)
  | ldaAbs (op16 : Word)
  | ldaAbsx (op16 : Word)
  | ldaAbsy (op16 : Word)
  | ldaIndx (op8 : Byte)
  | ldaIndy (op8 : Byte)
  -- LDX (R131)
  | ldxImm (op8 : Byte)
  | ldxZp (op8 : Byte)
  | ldxZpy (op8 : Byte)
  | ldxAbs (op16 : Word)
  | ldxAbsy (op16 : Word)
  -- LDY (R132)
  | ldyImm (op8 : Byte)
  | ldyZp (op8 : Byte)
  | ldyZpx (op8 : Byte)
  | ldyAbs (op16 : Word)
  | ldyAbsx (op16 : Word)
  -- STA (R133)
  | staZp (op8 : Byte)
  | staZpx (op8 : Byte)
  | staAbs (op16 : Word)
  | staAbsx (op16 : Word)
  | staAbsy (op16 : Word)
  | staIndx (op8 : Byte)
  | staIndy (op8 : Byte)
  -- STX (R134)
  | stxZp (op8 : Byte)
  | stxZpy (op8 : Byte)
  | stxAbs (op16 : Word)
  -- STY (R135)
  | styZp (op8 : Byte)
  | styZpx (op8 : Byte)
  | styAbs (op16 : Word)
  -- TAX (R136)
  | tax
  -- TAY (R137)
  | tay
  -- TXA (R138)
  | txa
  -- TYA (R139)
  | tya
  -- TSX (R140)
  | tsx
  -- TXS (R141)
  | txs
  -- ADC (R152)
  | adcImm (op8 : Byte)
  | adcZp (op8 : Byte)
  | adcZpx (op8 : Byte)
  | adcAbs (op16 : Word)
  | adcAbsx (op16 : Word)
  | adcAbsy (op16 : Word)
  | adcIndx (op8 : Byte)
  | adcIndy (op8 : Byte)
  -- SBC (R153)
  | sbcImm (op8 : Byte)
  | sbcZp (op8 : Byte)
  | sbcZpx (op8 : Byte)
  | sbcAbs (op16 : Word)
  | sbcAbsx (op16 : Word)
  | sbcAbsy (op16 : Word)
  | sbcIndx (op8 : Byte)
  | sbcIndy (op8 : Byte)
  -- AND (R154)
  | andImm (op8 : Byte)
  | andZp (op8 : Byte)
  | andZpx (op8 : Byte)
  | andAbs (op16 : Word)
  | andAbsx (op16 : Word)
  | andAbsy (op16 : Word)
  | andIndx (op8 : Byte)
  | andIndy (op8 : Byte)
  -- ORA (R155)
  | oraImm (op8 : Byte)
  | oraZp (op8 : Byte)
  | oraZpx (op8 : Byte)
  | oraAbs (op16 : Word)
  | oraAbsx (op16 : Word)
  | oraAbsy (op16 : Word)
  | oraIndx (op8 : Byte)
  | oraIndy (op8 : Byte)
  -- EOR (R156)
  | eorImm (op8 : Byte)
  | eorZp (op8 : Byte)
  | eorZpx (op8 : Byte)
  | eorAbs (op16 : Word)
  | eorAbsx (op16 : Word)
  | eorAbsy (op16 : Word)
  | eorIndx (op8 : Byte)
  | eorIndy (op8 : Byte)
  -- CMP (R157)
  | cmpImm (op8 : Byte)
  | cmpZp (op8 : Byte)
  | cmpZpx (op8 : Byte)
  | cmpAbs (op16 : Word)
  | cmpAbsx (op16 : Word)
  | cmpAbsy (op16 : Word)
  | cmpIndx (op8 : Byte)
  | cmpIndy (op8 : Byte)
  -- CPX (R158)
  | cpxImm (op8 : Byte)
  | cpxZp (op8 : Byte)
  | cpxAbs (op16 : Word)
  -- CPY (R159)
  | cpyImm (op8 : Byte)
  | cpyZp (op8 : Byte)
  | cpyAbs (op16 : Word)
  -- BIT (R160)
  | bitZp (op8 : Byte)
  | bitAbs (op16 : Word)
  -- ASL (R171)
  | aslAcc
  | aslZp (op8 : Byte)
  | aslZpx (op8 : Byte)
  | aslAbs (op16 : Word)
  | aslAbsx (op16 : Word)
  -- LSR (R172)
  | lsrAcc
  | lsrZp (op8 : Byte)
  | lsrZpx (op8 : Byte)
  | lsrAbs (op16 : Word)
  | lsrAbsx (op16 : Word)
  -- ROL (R173)
  | rolAcc
  | rolZp (op8 : Byte)
  | rolZpx (op8 : Byte)
  | rolAbs (op16 : Word)
  | rolAbsx (op16 : Word)
  -- ROR (R174)
  | rorAcc
  | rorZp (op8 : Byte)
  | rorZpx (op8 : Byte)
  | rorAbs (op16 : Word)
  | rorAbsx (op16 : Word)
  -- INC (R175)
  | incZp (op8 : Byte)
  | incZpx (op8 : Byte)
  | incAbs (op16 : Word)
  | incAbsx (op16 : Word)
  -- DEC (R176)
  | decZp (op8 : Byte)
  | decZpx (op8 : Byte)
  | decAbs (op16 : Word)
  | decAbsx (op16 : Word)
  -- INX (R177)
  | inx
  -- INY (R178)
  | iny
  -- DEX (R179)
  | dex
  -- DEY (R180)
  | dey
  -- JMP (R190)
  | jmpAbs (op16 : Word)
  | jmpInd (op16 : Word)
  -- JSR (R192)
  | jsrAbs (op16 : Word)
  -- RTS (R193)
  | rts
  -- BCC (R194)
  | bccRel (op8 : Byte)
  -- BCS (R195)
  | bcsRel (op8 : Byte)
  -- BEQ (R196)
  | beqRel (op8 : Byte)
  -- BNE (R197)
  | bneRel (op8 : Byte)
  -- BMI (R198)
  | bmiRel (op8 : Byte)
  -- BPL (R199)
  | bplRel (op8 : Byte)
  -- BVC (R200)
  | bvcRel (op8 : Byte)
  -- BVS (R201)
  | bvsRel (op8 : Byte)
  -- PHA (R210)
  | pha
  -- PHP (R211)
  | php
  -- PLA (R212)
  | pla
  -- PLP (R213)
  | plp
  -- CLC (R214)
  | clc
  -- SEC (R215)
  | sec
  -- CLI (R216)
  | cli
  -- SEI (R217)
  | sei
  -- CLD (R218)
  | cld
  -- SED (R219)
  | sed
  -- CLV (R220)
  | clv
  -- NOP (R221)
  | nop
  -- RTI (R222)
  | rti
  -- BRK (R223)
  | brk
  deriving DecidableEq, Repr

end Sys2Proof
end

