-- ==== Sys2Proof/Machine/Operation.lean ====
section
/-! DEFINITION. The decoder's output as the spec describes it (R84): the Operation, a mnemonic with an
operand whose format and kind the spec names, and the view of every instruction as an Operation. -/

namespace Sys2Proof

/-- The 56 mnemonics (R2, R86). -/
inductive Mnemonic where
  | lda | ldx | ldy | sta | stx | sty | tax | tay | txa | tya | tsx | txs
  | adc | sbc | and | ora | eor | cmp | cpx | cpy | bit
  | asl | lsr | rol | ror | inc | dec | inx | iny | dex | dey
  | jmp | jsr | rts | bcc | bcs | beq | bne | bmi | bpl | bvc | bvs
  | pha | php | pla | plp | clc | sec | cli | sei | cld | sed | clv | nop | rti | brk
  deriving DecidableEq, Repr

/-- The 13 formats (R81). -/
inductive Format where
  | imp | acc | imm | zp | zpx | zpy | abs | absx | absy | rel | ind | indx | indy
  deriving DecidableEq, Repr

/-- What the executor receives (R84): nothing, the operand Byte, or an address. -/
inductive Kind where
  | none | value | location
  deriving DecidableEq, Repr

/-- The ten modes that form an effective address (R105-R114), each with its raw operand. -/
inductive AddrMode where
  | zp (op8 : Byte)
  | zpx (op8 : Byte)
  | zpy (op8 : Byte)
  | abs (op16 : Word)
  | absx (op16 : Word)
  | absy (op16 : Word)
  | rel (op8 : Byte)
  | ind (op16 : Word)
  | indx (op8 : Byte)
  | indy (op8 : Byte)
  deriving DecidableEq, Repr

/-- Where a Value operand comes from (R101, R104): the instruction itself, or memory. -/
inductive ValueSource where
  | imm (op8 : Byte)
  | mem (mode : AddrMode)
  deriving DecidableEq, Repr

/-- An operand not yet resolved: its shape fixes its format (R81) and its kind (R84). -/
inductive Operand where
  | implied
  | accumulator
  | value (src : ValueSource)
  | location (mode : AddrMode)
  deriving DecidableEq, Repr

/-- The Operation of R84: the mnemonic, and the operand with its format, raw bytes and kind. -/
structure Operation where
  mnemonic : Mnemonic
  operand : Operand
  deriving DecidableEq, Repr

/-- The format of an addressing mode (R81). -/
def AddrMode.format : AddrMode → Format
  | .zp _ => .zp
  | .zpx _ => .zpx
  | .zpy _ => .zpy
  | .abs _ => .abs
  | .absx _ => .absx
  | .absy _ => .absy
  | .rel _ => .rel
  | .ind _ => .ind
  | .indx _ => .indx
  | .indy _ => .indy

/-- The format of an operand (R81). -/
def Operand.format : Operand → Format
  | .implied => .imp
  | .accumulator => .acc
  | .value (.imm _) => .imm
  | .value (.mem mode) => mode.format
  | .location mode => mode.format

/-- The kind of an operand (R84). -/
def Operand.kind : Operand → Kind
  | .implied => .none
  | .accumulator => .none
  | .value _ => .value
  | .location _ => .location

/-- The length in bytes of an instruction of a format (R81). -/
def Format.length : Format → Nat
  | .imp | .acc => 1
  | .imm | .zp | .zpx | .zpy | .rel | .indx | .indy => 2
  | .abs | .absx | .absy | .ind => 3

/-- An instruction as the Operation the decoder hands to the executor (R84). -/
def Instr.operation : Instr → Operation
  | .ldaImm op8 => ⟨.lda, .value (.imm op8)⟩
  | .ldaZp op8 => ⟨.lda, .value (.mem (.zp op8))⟩
  | .ldaZpx op8 => ⟨.lda, .value (.mem (.zpx op8))⟩
  | .ldaAbs op16 => ⟨.lda, .value (.mem (.abs op16))⟩
  | .ldaAbsx op16 => ⟨.lda, .value (.mem (.absx op16))⟩
  | .ldaAbsy op16 => ⟨.lda, .value (.mem (.absy op16))⟩
  | .ldaIndx op8 => ⟨.lda, .value (.mem (.indx op8))⟩
  | .ldaIndy op8 => ⟨.lda, .value (.mem (.indy op8))⟩
  | .ldxImm op8 => ⟨.ldx, .value (.imm op8)⟩
  | .ldxZp op8 => ⟨.ldx, .value (.mem (.zp op8))⟩
  | .ldxZpy op8 => ⟨.ldx, .value (.mem (.zpy op8))⟩
  | .ldxAbs op16 => ⟨.ldx, .value (.mem (.abs op16))⟩
  | .ldxAbsy op16 => ⟨.ldx, .value (.mem (.absy op16))⟩
  | .ldyImm op8 => ⟨.ldy, .value (.imm op8)⟩
  | .ldyZp op8 => ⟨.ldy, .value (.mem (.zp op8))⟩
  | .ldyZpx op8 => ⟨.ldy, .value (.mem (.zpx op8))⟩
  | .ldyAbs op16 => ⟨.ldy, .value (.mem (.abs op16))⟩
  | .ldyAbsx op16 => ⟨.ldy, .value (.mem (.absx op16))⟩
  | .staZp op8 => ⟨.sta, .location (.zp op8)⟩
  | .staZpx op8 => ⟨.sta, .location (.zpx op8)⟩
  | .staAbs op16 => ⟨.sta, .location (.abs op16)⟩
  | .staAbsx op16 => ⟨.sta, .location (.absx op16)⟩
  | .staAbsy op16 => ⟨.sta, .location (.absy op16)⟩
  | .staIndx op8 => ⟨.sta, .location (.indx op8)⟩
  | .staIndy op8 => ⟨.sta, .location (.indy op8)⟩
  | .stxZp op8 => ⟨.stx, .location (.zp op8)⟩
  | .stxZpy op8 => ⟨.stx, .location (.zpy op8)⟩
  | .stxAbs op16 => ⟨.stx, .location (.abs op16)⟩
  | .styZp op8 => ⟨.sty, .location (.zp op8)⟩
  | .styZpx op8 => ⟨.sty, .location (.zpx op8)⟩
  | .styAbs op16 => ⟨.sty, .location (.abs op16)⟩
  | .tax => ⟨.tax, .implied⟩
  | .tay => ⟨.tay, .implied⟩
  | .txa => ⟨.txa, .implied⟩
  | .tya => ⟨.tya, .implied⟩
  | .tsx => ⟨.tsx, .implied⟩
  | .txs => ⟨.txs, .implied⟩
  | .adcImm op8 => ⟨.adc, .value (.imm op8)⟩
  | .adcZp op8 => ⟨.adc, .value (.mem (.zp op8))⟩
  | .adcZpx op8 => ⟨.adc, .value (.mem (.zpx op8))⟩
  | .adcAbs op16 => ⟨.adc, .value (.mem (.abs op16))⟩
  | .adcAbsx op16 => ⟨.adc, .value (.mem (.absx op16))⟩
  | .adcAbsy op16 => ⟨.adc, .value (.mem (.absy op16))⟩
  | .adcIndx op8 => ⟨.adc, .value (.mem (.indx op8))⟩
  | .adcIndy op8 => ⟨.adc, .value (.mem (.indy op8))⟩
  | .sbcImm op8 => ⟨.sbc, .value (.imm op8)⟩
  | .sbcZp op8 => ⟨.sbc, .value (.mem (.zp op8))⟩
  | .sbcZpx op8 => ⟨.sbc, .value (.mem (.zpx op8))⟩
  | .sbcAbs op16 => ⟨.sbc, .value (.mem (.abs op16))⟩
  | .sbcAbsx op16 => ⟨.sbc, .value (.mem (.absx op16))⟩
  | .sbcAbsy op16 => ⟨.sbc, .value (.mem (.absy op16))⟩
  | .sbcIndx op8 => ⟨.sbc, .value (.mem (.indx op8))⟩
  | .sbcIndy op8 => ⟨.sbc, .value (.mem (.indy op8))⟩
  | .andImm op8 => ⟨.and, .value (.imm op8)⟩
  | .andZp op8 => ⟨.and, .value (.mem (.zp op8))⟩
  | .andZpx op8 => ⟨.and, .value (.mem (.zpx op8))⟩
  | .andAbs op16 => ⟨.and, .value (.mem (.abs op16))⟩
  | .andAbsx op16 => ⟨.and, .value (.mem (.absx op16))⟩
  | .andAbsy op16 => ⟨.and, .value (.mem (.absy op16))⟩
  | .andIndx op8 => ⟨.and, .value (.mem (.indx op8))⟩
  | .andIndy op8 => ⟨.and, .value (.mem (.indy op8))⟩
  | .oraImm op8 => ⟨.ora, .value (.imm op8)⟩
  | .oraZp op8 => ⟨.ora, .value (.mem (.zp op8))⟩
  | .oraZpx op8 => ⟨.ora, .value (.mem (.zpx op8))⟩
  | .oraAbs op16 => ⟨.ora, .value (.mem (.abs op16))⟩
  | .oraAbsx op16 => ⟨.ora, .value (.mem (.absx op16))⟩
  | .oraAbsy op16 => ⟨.ora, .value (.mem (.absy op16))⟩
  | .oraIndx op8 => ⟨.ora, .value (.mem (.indx op8))⟩
  | .oraIndy op8 => ⟨.ora, .value (.mem (.indy op8))⟩
  | .eorImm op8 => ⟨.eor, .value (.imm op8)⟩
  | .eorZp op8 => ⟨.eor, .value (.mem (.zp op8))⟩
  | .eorZpx op8 => ⟨.eor, .value (.mem (.zpx op8))⟩
  | .eorAbs op16 => ⟨.eor, .value (.mem (.abs op16))⟩
  | .eorAbsx op16 => ⟨.eor, .value (.mem (.absx op16))⟩
  | .eorAbsy op16 => ⟨.eor, .value (.mem (.absy op16))⟩
  | .eorIndx op8 => ⟨.eor, .value (.mem (.indx op8))⟩
  | .eorIndy op8 => ⟨.eor, .value (.mem (.indy op8))⟩
  | .cmpImm op8 => ⟨.cmp, .value (.imm op8)⟩
  | .cmpZp op8 => ⟨.cmp, .value (.mem (.zp op8))⟩
  | .cmpZpx op8 => ⟨.cmp, .value (.mem (.zpx op8))⟩
  | .cmpAbs op16 => ⟨.cmp, .value (.mem (.abs op16))⟩
  | .cmpAbsx op16 => ⟨.cmp, .value (.mem (.absx op16))⟩
  | .cmpAbsy op16 => ⟨.cmp, .value (.mem (.absy op16))⟩
  | .cmpIndx op8 => ⟨.cmp, .value (.mem (.indx op8))⟩
  | .cmpIndy op8 => ⟨.cmp, .value (.mem (.indy op8))⟩
  | .cpxImm op8 => ⟨.cpx, .value (.imm op8)⟩
  | .cpxZp op8 => ⟨.cpx, .value (.mem (.zp op8))⟩
  | .cpxAbs op16 => ⟨.cpx, .value (.mem (.abs op16))⟩
  | .cpyImm op8 => ⟨.cpy, .value (.imm op8)⟩
  | .cpyZp op8 => ⟨.cpy, .value (.mem (.zp op8))⟩
  | .cpyAbs op16 => ⟨.cpy, .value (.mem (.abs op16))⟩
  | .bitZp op8 => ⟨.bit, .value (.mem (.zp op8))⟩
  | .bitAbs op16 => ⟨.bit, .value (.mem (.abs op16))⟩
  | .aslAcc => ⟨.asl, .accumulator⟩
  | .aslZp op8 => ⟨.asl, .location (.zp op8)⟩
  | .aslZpx op8 => ⟨.asl, .location (.zpx op8)⟩
  | .aslAbs op16 => ⟨.asl, .location (.abs op16)⟩
  | .aslAbsx op16 => ⟨.asl, .location (.absx op16)⟩
  | .lsrAcc => ⟨.lsr, .accumulator⟩
  | .lsrZp op8 => ⟨.lsr, .location (.zp op8)⟩
  | .lsrZpx op8 => ⟨.lsr, .location (.zpx op8)⟩
  | .lsrAbs op16 => ⟨.lsr, .location (.abs op16)⟩
  | .lsrAbsx op16 => ⟨.lsr, .location (.absx op16)⟩
  | .rolAcc => ⟨.rol, .accumulator⟩
  | .rolZp op8 => ⟨.rol, .location (.zp op8)⟩
  | .rolZpx op8 => ⟨.rol, .location (.zpx op8)⟩
  | .rolAbs op16 => ⟨.rol, .location (.abs op16)⟩
  | .rolAbsx op16 => ⟨.rol, .location (.absx op16)⟩
  | .rorAcc => ⟨.ror, .accumulator⟩
  | .rorZp op8 => ⟨.ror, .location (.zp op8)⟩
  | .rorZpx op8 => ⟨.ror, .location (.zpx op8)⟩
  | .rorAbs op16 => ⟨.ror, .location (.abs op16)⟩
  | .rorAbsx op16 => ⟨.ror, .location (.absx op16)⟩
  | .incZp op8 => ⟨.inc, .location (.zp op8)⟩
  | .incZpx op8 => ⟨.inc, .location (.zpx op8)⟩
  | .incAbs op16 => ⟨.inc, .location (.abs op16)⟩
  | .incAbsx op16 => ⟨.inc, .location (.absx op16)⟩
  | .decZp op8 => ⟨.dec, .location (.zp op8)⟩
  | .decZpx op8 => ⟨.dec, .location (.zpx op8)⟩
  | .decAbs op16 => ⟨.dec, .location (.abs op16)⟩
  | .decAbsx op16 => ⟨.dec, .location (.absx op16)⟩
  | .inx => ⟨.inx, .implied⟩
  | .iny => ⟨.iny, .implied⟩
  | .dex => ⟨.dex, .implied⟩
  | .dey => ⟨.dey, .implied⟩
  | .jmpAbs op16 => ⟨.jmp, .location (.abs op16)⟩
  | .jmpInd op16 => ⟨.jmp, .location (.ind op16)⟩
  | .jsrAbs op16 => ⟨.jsr, .location (.abs op16)⟩
  | .rts => ⟨.rts, .implied⟩
  | .bccRel op8 => ⟨.bcc, .location (.rel op8)⟩
  | .bcsRel op8 => ⟨.bcs, .location (.rel op8)⟩
  | .beqRel op8 => ⟨.beq, .location (.rel op8)⟩
  | .bneRel op8 => ⟨.bne, .location (.rel op8)⟩
  | .bmiRel op8 => ⟨.bmi, .location (.rel op8)⟩
  | .bplRel op8 => ⟨.bpl, .location (.rel op8)⟩
  | .bvcRel op8 => ⟨.bvc, .location (.rel op8)⟩
  | .bvsRel op8 => ⟨.bvs, .location (.rel op8)⟩
  | .pha => ⟨.pha, .implied⟩
  | .php => ⟨.php, .implied⟩
  | .pla => ⟨.pla, .implied⟩
  | .plp => ⟨.plp, .implied⟩
  | .clc => ⟨.clc, .implied⟩
  | .sec => ⟨.sec, .implied⟩
  | .cli => ⟨.cli, .implied⟩
  | .sei => ⟨.sei, .implied⟩
  | .cld => ⟨.cld, .implied⟩
  | .sed => ⟨.sed, .implied⟩
  | .clv => ⟨.clv, .implied⟩
  | .nop => ⟨.nop, .implied⟩
  | .rti => ⟨.rti, .implied⟩
  | .brk => ⟨.brk, .implied⟩

/-- The mnemonic of an instruction (R86). -/
def Instr.mnemonic (i : Instr) : Mnemonic := i.operation.mnemonic

/-- The operand of an instruction (R84). -/
def Instr.operand (i : Instr) : Operand := i.operation.operand

/-- The format of an instruction (R81, R86). -/
def Instr.format (i : Instr) : Format := i.operand.format

/-- The length of an instruction in bytes (R80, R82). -/
def Instr.length (i : Instr) : Nat := i.format.length

end Sys2Proof
end

