-- ==== Sys2Proof/Machine/State.lean ====
section
/-! DEFINITION. The whole state of the block (R20, R36, R50): the register file, the seven flags, the run
state and the memory; the reasons a step can stop; power-on and reset. There is no other state (R39). -/

namespace Sys2Proof.Machine

/-- Why a run ends in an error (R230); the names are the codes (D25). -/
inductive Fault where
  /-- Raised by the decoder on one of the 105 opcode bytes with no table entry (R87, R232), with the
  byte and the address `pc0` of that byte. Safe: the spec raises it exactly there. -/
  | unimplementedOpcode (opcode : Byte) (pc : Word)
  /-- The spec's name for an Operation with no executor case (R233). Nothing raises it: every mnemonic
  has its meaning. Safe: it is never answered. -/
  | unimplementedOperation (op : Operation)
  /-- Raised by a read or a write of an address in 0x0800-0x7FFF (R52, R53, R234), with the first
  unmapped address in the order of R71. Safe: the spec raises it exactly there. -/
  | addressSpaceViolation (addr : Word)
  deriving DecidableEq, Repr

/-- Why something asked of the machine is turned away, changing nothing. -/
inductive Refusal where
  /-- An instruction that has no meaning yet, by its mnemonic. Safe; no arm of `exec` answers it. -/
  | notModelled (mnemonic : String)
  /-- A Load of more than 0x8000 bytes (R262). Safe: the spec refuses it. -/
  | loadTooLong (length : Nat)
  /-- Load, start or start_from while the machine is Running, which the host cannot do (R262, R269,
  R276). Safe: the call cannot arrive. -/
  | calledWhileRunning
  deriving DecidableEq, Repr

/-- Why the machine is halted (R36). -/
inductive HaltCause where
  /-- `Halted(Break)`: the one normal end of a run (R223, R236). -/
  | brk
  /-- `Halted(Error e)` (R231). -/
  | error (e : Fault)
  deriving DecidableEq, Repr

/-- The run state (R36). A program cannot read it. -/
inductive RunState where
  | ready
  | running
  | halted (cause : HaltCause)
  deriving DecidableEq, Repr

/-- The status register: seven independent Booleans (R20, R28). -/
@[ext]
structure Flags where
  /-- C, carry (R29). -/
  c : Bool
  /-- Z, zero (R30). -/
  z : Bool
  /-- I, interrupt-disable; it masks nothing (R31). -/
  i : Bool
  /-- D, decimal-mode-flag; arithmetic ignores it (R32). -/
  d : Bool
  /-- B, break-command; no instruction reads or writes it (R33). -/
  b : Bool
  /-- V, overflow (R34). -/
  v : Bool
  /-- N, negative (R35). -/
  n : Bool
  deriving DecidableEq, Repr

/-- Every flag false (R40). -/
def Flags.allFalse : Flags :=
  { c := false, z := false, i := false, d := false, b := false, v := false, n := false }

/-- Memory as the cells that differ from `Config.unlistedByte`, by rising address (`Memory.wf`). -/
abbrev Memory := List Host.Cell

/-- The machine's state (R20, R36, R50). -/
@[ext]
structure State where
  /-- PC, the program counter (R25). -/
  pc : Word
  /-- SP, an 8-bit offset into the stack page (R24). -/
  sp : Byte
  /-- A, the accumulator (R21). -/
  a : Byte
  /-- X, index register X (R22). -/
  x : Byte
  /-- Y, index register Y (R23). -/
  y : Byte
  /-- The status flags (R28). -/
  flags : Flags
  /-- The run state (R36). -/
  run : RunState
  /-- The content of the mapped cells (R50-R55). -/
  mem : Memory
  deriving DecidableEq, Repr

/-- The machine at construction, its memory holding `InitMem` (R260, R40, R7). -/
def State.powerOn (initMem : Memory) : State :=
  { pc := 0x0000#16, sp := 0x00#8, a := 0x00#8, x := 0x00#8, y := 0x00#8,
    flags := Flags.allFalse, run := .ready, mem := initMem }

/-- The machine right after reset: start on a machine that nothing was loaded into (R40, R261, R263).
PC holds the reset vector's two cells. DESIGN CHOICE (notes/assumptions/1.md), unsafe: those cells, like
all of memory, hold `Config.unlistedByte`, one of the contents the spec allows (R7, P9). -/
def State.reset : State :=
  { State.powerOn [] with pc := Config.unlistedByte ++ Config.unlistedByte, run := .running }

end Sys2Proof.Machine
end

