-- ==== Sys2Proof/Machine/Flags.lean ====
section
/-! DEFINITION. The ALU and flag engine: every result and every flag computation the spec gives
(R37, R150-R163, R171-R174). -/

namespace Sys2Proof.Machine

/-- `SetZN(v)` (R150). -/
def Flags.setZN (f : Flags) (v : Byte) : Flags := { f with z := v == 0x00#8, n := bitAt v 7 }

/-- The unbounded sum `a0 + m + C`, 0..511 (R152). -/
def addSum (a m : Byte) (c : Bool) : Nat := a.toNat + m.toNat + c.toNat

/-- The sum wrapped at 8 bits (R151, R152). -/
def addByte (a m : Byte) (c : Bool) : Byte := BitVec.ofNat 8 (addSum a m c)

/-- The overflow law (R161): `(acc ^ result) & (operand ^ result) & 0x80 != 0`. -/
def addOverflow (a m : Byte) (c : Bool) : Bool :=
  let res := addByte a m c
  ((a ^^^ res) &&& (m ^^^ res) &&& 0x80#8) != 0x00#8

/-- The flags ADC leaves: C, V, Z, N (R152). -/
def Flags.afterAdd (f : Flags) (a m : Byte) : Flags :=
  { f with c := decide (0xFF < addSum a m f.c), v := addOverflow a m f.c }.setZN (addByte a m f.c)

/-- SBC adds the one's complement of its operand (R153). -/
def complement (m : Byte) : Byte := m ^^^ 0xFF#8

/-- The flags a compare of `r` with `m` leaves: C, Z, N (R157). -/
def Flags.afterCompare (f : Flags) (r m : Byte) : Flags :=
  { f with c := decide (m.toNat ≤ r.toNat), z := r == m, n := bitAt (r - m) 7 }

/-- The flags BIT leaves: Z from `A & M`, N and V from the operand itself (R160). -/
def Flags.afterBit (f : Flags) (a m : Byte) : Flags :=
  { f with z := (a &&& m) == 0x00#8, n := bitAt m 7, v := bitAt m 6 }

/-- ASL's result (R171). -/
def aslByte (v : Byte) : Byte := v <<< 1

/-- LSR's result (R172). -/
def lsrByte (v : Byte) : Byte := v >>> 1

/-- ROL's result: bit 0 is the old carry (R173). -/
def rolByte (v : Byte) (c : Bool) : Byte := (v <<< 1) ||| (BitVec.ofBool c).setWidth 8

/-- ROR's result: bit 7 is the old carry (R174). -/
def rorByte (v : Byte) (c : Bool) : Byte := (v >>> 1) ||| ((BitVec.ofBool c).setWidth 8 <<< 7)

/-- The flags a shift or rotate leaves: C the bit shifted out, Z and N from the result (R171-R174). -/
def Flags.afterShift (f : Flags) (out : Bool) (r : Byte) : Flags := { f with c := out }.setZN r

/-- `PackP()` (R37): N V 1 1 D I Z C from bit 7 to bit 0; B is not read (R33). -/
def Flags.pack (f : Flags) : Byte :=
  BitVec.ofNat 8 (f.n.toNat * 128 + f.v.toNat * 64 + 32 + 16 + f.d.toNat * 8 + f.i.toNat * 4
    + f.z.toNat * 2 + f.c.toNat)

/-- `UnpackP(b)` (R37): bits 5 and 4 are ignored and B is not written (R33). -/
def Flags.unpack (f : Flags) (p : Byte) : Flags :=
  { f with n := bitAt p 7, v := bitAt p 6, d := bitAt p 3, i := bitAt p 2, z := bitAt p 1,
           c := bitAt p 0 }

end Sys2Proof.Machine
end

