-- ==== Sys2Proof/Machine/Ops.lean ====
section
/-! DEFINITION. The named operations over memory and registers: the address map, the cells, the read and
write primitives, the stack, and how a run stops (R50-R64, R231, R236, R242). -/

namespace Sys2Proof.Machine

/-- What a step, or a meaning, answers. -/
abbrev StepResult := Host.Outcome State Fault Refusal

/-! ### Register updates -/

/-- `A <- v`. -/
def State.setA (s : State) (v : Byte) : State := { s with a := v }
/-- `X <- v`. -/
def State.setX (s : State) (v : Byte) : State := { s with x := v }
/-- `Y <- v`. -/
def State.setY (s : State) (v : Byte) : State := { s with y := v }
/-- `SP <- v`. -/
def State.setSp (s : State) (v : Byte) : State := { s with sp := v }
/-- `PC <- v`. -/
def State.setPc (s : State) (v : Word) : State := { s with pc := v }
/-- The flags become `f`. -/
def State.setFlags (s : State) (f : Flags) : State := { s with flags := f }
/-- `SetZN(v)` on the machine (R150). -/
def State.setZN (s : State) (v : Byte) : State := s.setFlags (s.flags.setZN v)
/-- Memory becomes `m`. -/
def State.setMem (s : State) (m : Memory) : State := { s with mem := m }
/-- The run state becomes `r`. -/
def State.setRun (s : State) (r : RunState) : State := { s with run := r }

/-! ### The address map and the cells -/

/-- A cell exists at this number: it lies in RAM or in "Program ROM" (R51). -/
def cellExists (k : Nat) : Bool :=
  decide (Config.ramStart ≤ k ∧ k < Config.ramStart + Config.ramSize)
    || decide (Config.romStart ≤ k ∧ k < Config.romStart + Config.romSize)

/-- `Mapped(addr)` (R51). -/
def mapped (addr : Word) : Bool := cellExists addr.toNat

/-- The byte of cell `k` in a list of cells. -/
def cellAt (k : Nat) : Memory → Byte
  | [] => Config.unlistedByte
  | (j, v) :: rest => if j = k then v else cellAt k rest

/-- The cell itself in front of a list, unless it holds what an unlisted cell reads as. -/
def consCell (k : Nat) (v : Byte) (rest : Memory) : Memory :=
  if v = Config.unlistedByte then rest else (k, v) :: rest

/-- Cell `k` becomes `v`, the list kept in its canonical form. -/
def setCell (k : Nat) (v : Byte) : Memory → Memory
  | [] => consCell k v []
  | (j, u) :: rest =>
    if k < j then consCell k v ((j, u) :: rest)
    else if k = j then consCell k v rest
    else (j, u) :: setCell k v rest

/-- The canonical form of memory: addresses strictly rising, every listed cell exists and differs from
what an unlisted cell reads as. -/
abbrev Memory.wf (m : Memory) : Prop :=
  m.Pairwise (fun c d => c.1 < d.1) ∧ ∀ c ∈ m, c.2 ≠ Config.unlistedByte ∧ cellExists c.1 = true

/-- The byte in the cell at an address (mapped or not: see `memRead`). -/
def peek (m : Memory) (addr : Word) : Byte := cellAt addr.toNat m

/-- The cell at an address becomes `v` (used on mapped addresses: see `memWrite`). -/
def poke (m : Memory) (addr : Word) (v : Byte) : Memory := setCell addr.toNat v m

/-! ### The read and write primitives -/

/-- `MemRead(addr, 1)` (R52): the byte, or the fault that names the address. It changes no state (R55). -/
def memRead (m : Memory) (addr : Word) : Except Fault Byte :=
  if mapped addr then .ok (peek m addr) else .error (.addressSpaceViolation addr)

/-- `MemWrite(addr, 1, v)` (R53); the region "Program ROM" is written like RAM (R54). -/
def memWrite (m : Memory) (addr : Word) (v : Byte) : Except Fault Memory :=
  if mapped addr then .ok (poke m addr v) else .error (.addressSpaceViolation addr)

/-- `MemRead(addr, 2)` (R56): little-endian, the low byte read first, the high byte at `addr +16 1` with
no wrap inside a page (R58). -/
def memRead16 (m : Memory) (addr : Word) : Except Fault Word :=
  match memRead m addr with
  | .error e => .error e
  | .ok lo =>
    match memRead m (addr + 1#16) with
    | .error e => .error e
    | .ok hi => .ok (mkWord hi lo)

/-- `MemWrite(addr, 2, v)` (R57), used by Load. -/
def memWrite16 (m : Memory) (addr : Word) (v : Word) : Except Fault Memory :=
  match memWrite m addr (loByte v) with
  | .error e => .error e
  | .ok m => memWrite m (addr + 1#16) (hiByte v)

/-! ### The stack -/

/-- The stack cell SP designates: `0x0100 + SP` (R24, R61). It always lies in RAM. -/
def stackAddr (sp : Byte) : Word := Config.stackPage + zext16 sp

/-- `Push(v)` (R62): the write uses SP before the decrement. -/
def push (v : Byte) (s : State) : State :=
  (s.setMem (poke s.mem (stackAddr s.sp) v)).setSp (s.sp - 1#8)

/-- The state `Pull()` leaves (R63): SP one higher. -/
def pulled (s : State) : State := s.setSp (s.sp + 1#8)

/-- The Byte `Pull()` gives (R63): the increment comes first. -/
def pulledByte (s : State) : Byte := peek s.mem (stackAddr (s.sp + 1#8))

/-- `Push16(w)` (R64): high byte first. -/
def push16 (w : Word) (s : State) : State := push (loByte w) (push (hiByte w) s)

/-- The state `Pull16()` leaves (R64). -/
def pulled16 (s : State) : State := pulled (pulled s)

/-- The Word `Pull16()` gives (R64): low byte first. -/
def pulledWord (s : State) : Word := mkWord (pulledByte (pulled s)) (pulledByte s)

/-! ### How an instruction stops the machine, and the return from interrupt -/

/-- `raise E(info)` (R231): the one way an instruction ends in an error. Nothing is saved, no flag or
register changes and no handler is entered (R242), so the outcome is a fault without a next state. -/
def raise (e : Fault) : StepResult := .fault e

/-- The one effect of BRK (R223, R236): the run state becomes Halted(Break). No push, no flag, no vector. -/
def haltBreak (s : State) : State := s.setRun (.halted .brk)

/-- The return from interrupt (R222, R243): pulls the status, then PC low, then PC high, with no +1. -/
def returnFromInterrupt (s : State) : State :=
  let s1 := (pulled s).setFlags (s.flags.unpack (pulledByte s))
  (pulled16 s1).setPc (pulledWord s1)

end Sys2Proof.Machine
end

