-- ==== Sys2Proof/Machine/Operands.lean ====
section
/-! DEFINITION. The addressing-mode resolver (R100-R118): effective addresses, Value and Location operands,
and the shared shapes of an instruction that reads, stores to, modifies or goes to its operand. -/

namespace Sys2Proof.Machine

/-- `EA(format, operand)`: the closed formula of each mode (R105-R114), over X, Y and PC as they stand
after decode. It writes nothing (R100, R117); only the pointer modes read memory. -/
def effectiveAddress (mode : AddrMode) (s : State) : Except Fault Word :=
  match mode with
  | .zp op8 => .ok (zext16 op8)
  | .zpx op8 => .ok (zext16 (op8 + s.x))
  | .zpy op8 => .ok (zext16 (op8 + s.y))
  | .abs op16 => .ok op16
  | .absx op16 => .ok (op16 + zext16 s.x)
  | .absy op16 => .ok (op16 + zext16 s.y)
  | .rel op8 => .ok (s.pc + sext16 op8)
  | .ind op16 => memRead16 s.mem op16
  | .indx op8 => memRead16 s.mem (zext16 (op8 + s.x))
  | .indy op8 =>
    match memRead16 s.mem (zext16 op8) with
    | .error e => .error e
    | .ok ptr => .ok (ptr + zext16 s.y)

/-- A Value resolution (R101, R102, R104): the operand Byte `M`. -/
def resolveValue (src : ValueSource) (s : State) : Except Fault Byte :=
  match src with
  | .imm op8 => .ok op8
  | .mem mode =>
    match effectiveAddress mode s with
    | .error e => .error e
    | .ok ea => memRead s.mem ea

/-- What the executor receives (R84, R102). -/
inductive Resolved where
  | nothing
  | value (m : Byte)
  | location (ea : Word)
  deriving DecidableEq, Repr

/-- `Resolve(format, operand, kind)` (R102): nothing for IMP and ACC (R103), `M` for a Value, `ea` for a
Location, whose byte is not read. -/
def resolve (operand : Operand) (s : State) : Except Fault Resolved :=
  match operand with
  | .implied => .ok .nothing
  | .accumulator => .ok .nothing
  | .value src =>
    match resolveValue src s with
    | .error e => .error e
    | .ok m => .ok (.value m)
  | .location mode =>
    match effectiveAddress mode s with
    | .error e => .error e
    | .ok ea => .ok (.location ea)

/-- An instruction that uses its operand Byte `M` and then only changes registers and flags. -/
def withValue (src : ValueSource) (s : State) (k : Byte → State) : StepResult :=
  match resolveValue src s with
  | .error e => raise e
  | .ok m => .next (k m)

/-- An instruction that uses its effective address and makes no access at it (jumps, R118). -/
def withAddress (mode : AddrMode) (s : State) (k : Word → State) : StepResult :=
  match effectiveAddress mode s with
  | .error e => raise e
  | .ok ea => .next (k ea)

/-- `MemWrite(ea, 1, v)` and nothing else (the stores, R133-R135): the byte at `ea` is not read. -/
def storeByte (mode : AddrMode) (v : Byte) (s : State) : StepResult :=
  match effectiveAddress mode s with
  | .error e => raise e
  | .ok ea =>
    match memWrite s.mem ea v with
    | .error e => raise e
    | .ok mem => .next (s.setMem mem)

/-- Read-modify-write (R170, R67): reads `ea`, writes `result v` at `ea`, then the flags become `flags v`,
with `v` the byte read. -/
def modifyByte (mode : AddrMode) (s : State) (result : Byte → Byte) (flags : Byte → Flags) :
    StepResult :=
  match effectiveAddress mode s with
  | .error e => raise e
  | .ok ea =>
    match memRead s.mem ea with
    | .error e => raise e
    | .ok v =>
      match memWrite s.mem ea (result v) with
      | .error e => raise e
      | .ok mem => .next ((s.setMem mem).setFlags (flags v))

/-- The same on the accumulator (format ACC, R103, R170): no memory is touched. -/
def modifyA (s : State) (result : Byte → Byte) (flags : Byte → Flags) : StepResult :=
  .next ((s.setA (result s.a)).setFlags (flags s.a))

end Sys2Proof.Machine
end

