-- ==== Sys2Proof/Machine/Alu.lean ====
section
/-! DEFINITION. The meanings of the arithmetic, logic, compare and bit test (spec file 42). Each `perform…` is a
mnemonic's rule over its operand; each `exec…` is the meaning of one row of the opcode table. -/

namespace Sys2Proof.Machine

/-- ADC (R152): binary whatever D holds (R162). -/
def performAdc (src : ValueSource) (s : State) : StepResult :=
  withValue src s fun m => (s.setA (addByte s.a m s.flags.c)).setFlags (s.flags.afterAdd s.a m)

/-- `ADC #$nn`, opcode 0x69 (R152). -/
def execAdcImm (op8 : Byte) (s : State) : StepResult := performAdc (.imm op8) s
/-- `ADC $nn`, opcode 0x65 (R152). -/
def execAdcZp (op8 : Byte) (s : State) : StepResult := performAdc (.mem (.zp op8)) s
/-- `ADC $nn,X`, opcode 0x75 (R152). -/
def execAdcZpx (op8 : Byte) (s : State) : StepResult := performAdc (.mem (.zpx op8)) s
/-- `ADC $nnnn`, opcode 0x6D (R152). -/
def execAdcAbs (op16 : Word) (s : State) : StepResult := performAdc (.mem (.abs op16)) s
/-- `ADC $nnnn,X`, opcode 0x7D (R152). -/
def execAdcAbsx (op16 : Word) (s : State) : StepResult := performAdc (.mem (.absx op16)) s
/-- `ADC $nnnn,Y`, opcode 0x79 (R152). -/
def execAdcAbsy (op16 : Word) (s : State) : StepResult := performAdc (.mem (.absy op16)) s
/-- `ADC ($nn,X)`, opcode 0x61 (R152). -/
def execAdcIndx (op8 : Byte) (s : State) : StepResult := performAdc (.mem (.indx op8)) s
/-- `ADC ($nn),Y`, opcode 0x71 (R152). -/
def execAdcIndy (op8 : Byte) (s : State) : StepResult := performAdc (.mem (.indy op8)) s

/-- SBC (R153): ADC of the one's complement of the operand. -/
def performSbc (src : ValueSource) (s : State) : StepResult :=
  withValue src s fun m => (s.setA (addByte s.a (complement m) s.flags.c)).setFlags (s.flags.afterAdd s.a (complement m))

/-- `SBC #$nn`, opcode 0xE9 (R153). -/
def execSbcImm (op8 : Byte) (s : State) : StepResult := performSbc (.imm op8) s
/-- `SBC $nn`, opcode 0xE5 (R153). -/
def execSbcZp (op8 : Byte) (s : State) : StepResult := performSbc (.mem (.zp op8)) s
/-- `SBC $nn,X`, opcode 0xF5 (R153). -/
def execSbcZpx (op8 : Byte) (s : State) : StepResult := performSbc (.mem (.zpx op8)) s
/-- `SBC $nnnn`, opcode 0xED (R153). -/
def execSbcAbs (op16 : Word) (s : State) : StepResult := performSbc (.mem (.abs op16)) s
/-- `SBC $nnnn,X`, opcode 0xFD (R153). -/
def execSbcAbsx (op16 : Word) (s : State) : StepResult := performSbc (.mem (.absx op16)) s
/-- `SBC $nnnn,Y`, opcode 0xF9 (R153). -/
def execSbcAbsy (op16 : Word) (s : State) : StepResult := performSbc (.mem (.absy op16)) s
/-- `SBC ($nn,X)`, opcode 0xE1 (R153). -/
def execSbcIndx (op8 : Byte) (s : State) : StepResult := performSbc (.mem (.indx op8)) s
/-- `SBC ($nn),Y`, opcode 0xF1 (R153). -/
def execSbcIndy (op8 : Byte) (s : State) : StepResult := performSbc (.mem (.indy op8)) s

/-- AND (R154): `A <- A & M; SetZN(A)`. -/
def performAnd (src : ValueSource) (s : State) : StepResult :=
  withValue src s fun m => (s.setA (s.a &&& m)).setZN (s.a &&& m)

/-- `AND #$nn`, opcode 0x29 (R154). -/
def execAndImm (op8 : Byte) (s : State) : StepResult := performAnd (.imm op8) s
/-- `AND $nn`, opcode 0x25 (R154). -/
def execAndZp (op8 : Byte) (s : State) : StepResult := performAnd (.mem (.zp op8)) s
/-- `AND $nn,X`, opcode 0x35 (R154). -/
def execAndZpx (op8 : Byte) (s : State) : StepResult := performAnd (.mem (.zpx op8)) s
/-- `AND $nnnn`, opcode 0x2D (R154). -/
def execAndAbs (op16 : Word) (s : State) : StepResult := performAnd (.mem (.abs op16)) s
/-- `AND $nnnn,X`, opcode 0x3D (R154). -/
def execAndAbsx (op16 : Word) (s : State) : StepResult := performAnd (.mem (.absx op16)) s
/-- `AND $nnnn,Y`, opcode 0x39 (R154). -/
def execAndAbsy (op16 : Word) (s : State) : StepResult := performAnd (.mem (.absy op16)) s
/-- `AND ($nn,X)`, opcode 0x21 (R154). -/
def execAndIndx (op8 : Byte) (s : State) : StepResult := performAnd (.mem (.indx op8)) s
/-- `AND ($nn),Y`, opcode 0x31 (R154). -/
def execAndIndy (op8 : Byte) (s : State) : StepResult := performAnd (.mem (.indy op8)) s

/-- ORA (R155): `A <- A | M; SetZN(A)`. -/
def performOra (src : ValueSource) (s : State) : StepResult :=
  withValue src s fun m => (s.setA (s.a ||| m)).setZN (s.a ||| m)

/-- `ORA #$nn`, opcode 0x09 (R155). -/
def execOraImm (op8 : Byte) (s : State) : StepResult := performOra (.imm op8) s
/-- `ORA $nn`, opcode 0x05 (R155). -/
def execOraZp (op8 : Byte) (s : State) : StepResult := performOra (.mem (.zp op8)) s
/-- `ORA $nn,X`, opcode 0x15 (R155). -/
def execOraZpx (op8 : Byte) (s : State) : StepResult := performOra (.mem (.zpx op8)) s
/-- `ORA $nnnn`, opcode 0x0D (R155). -/
def execOraAbs (op16 : Word) (s : State) : StepResult := performOra (.mem (.abs op16)) s
/-- `ORA $nnnn,X`, opcode 0x1D (R155). -/
def execOraAbsx (op16 : Word) (s : State) : StepResult := performOra (.mem (.absx op16)) s
/-- `ORA $nnnn,Y`, opcode 0x19 (R155). -/
def execOraAbsy (op16 : Word) (s : State) : StepResult := performOra (.mem (.absy op16)) s
/-- `ORA ($nn,X)`, opcode 0x01 (R155). -/
def execOraIndx (op8 : Byte) (s : State) : StepResult := performOra (.mem (.indx op8)) s
/-- `ORA ($nn),Y`, opcode 0x11 (R155). -/
def execOraIndy (op8 : Byte) (s : State) : StepResult := performOra (.mem (.indy op8)) s

/-- EOR (R156): `A <- A ^ M; SetZN(A)`. -/
def performEor (src : ValueSource) (s : State) : StepResult :=
  withValue src s fun m => (s.setA (s.a ^^^ m)).setZN (s.a ^^^ m)

/-- `EOR #$nn`, opcode 0x49 (R156). -/
def execEorImm (op8 : Byte) (s : State) : StepResult := performEor (.imm op8) s
/-- `EOR $nn`, opcode 0x45 (R156). -/
def execEorZp (op8 : Byte) (s : State) : StepResult := performEor (.mem (.zp op8)) s
/-- `EOR $nn,X`, opcode 0x55 (R156). -/
def execEorZpx (op8 : Byte) (s : State) : StepResult := performEor (.mem (.zpx op8)) s
/-- `EOR $nnnn`, opcode 0x4D (R156). -/
def execEorAbs (op16 : Word) (s : State) : StepResult := performEor (.mem (.abs op16)) s
/-- `EOR $nnnn,X`, opcode 0x5D (R156). -/
def execEorAbsx (op16 : Word) (s : State) : StepResult := performEor (.mem (.absx op16)) s
/-- `EOR $nnnn,Y`, opcode 0x59 (R156). -/
def execEorAbsy (op16 : Word) (s : State) : StepResult := performEor (.mem (.absy op16)) s
/-- `EOR ($nn,X)`, opcode 0x41 (R156). -/
def execEorIndx (op8 : Byte) (s : State) : StepResult := performEor (.mem (.indx op8)) s
/-- `EOR ($nn),Y`, opcode 0x51 (R156). -/
def execEorIndy (op8 : Byte) (s : State) : StepResult := performEor (.mem (.indy op8)) s

/-- CMP (R157): C, Z, N from A and M; A is not written. -/
def performCmp (src : ValueSource) (s : State) : StepResult :=
  withValue src s fun m => s.setFlags (s.flags.afterCompare s.a m)

/-- `CMP #$nn`, opcode 0xC9 (R157). -/
def execCmpImm (op8 : Byte) (s : State) : StepResult := performCmp (.imm op8) s
/-- `CMP $nn`, opcode 0xC5 (R157). -/
def execCmpZp (op8 : Byte) (s : State) : StepResult := performCmp (.mem (.zp op8)) s
/-- `CMP $nn,X`, opcode 0xD5 (R157). -/
def execCmpZpx (op8 : Byte) (s : State) : StepResult := performCmp (.mem (.zpx op8)) s
/-- `CMP $nnnn`, opcode 0xCD (R157). -/
def execCmpAbs (op16 : Word) (s : State) : StepResult := performCmp (.mem (.abs op16)) s
/-- `CMP $nnnn,X`, opcode 0xDD (R157). -/
def execCmpAbsx (op16 : Word) (s : State) : StepResult := performCmp (.mem (.absx op16)) s
/-- `CMP $nnnn,Y`, opcode 0xD9 (R157). -/
def execCmpAbsy (op16 : Word) (s : State) : StepResult := performCmp (.mem (.absy op16)) s
/-- `CMP ($nn,X)`, opcode 0xC1 (R157). -/
def execCmpIndx (op8 : Byte) (s : State) : StepResult := performCmp (.mem (.indx op8)) s
/-- `CMP ($nn),Y`, opcode 0xD1 (R157). -/
def execCmpIndy (op8 : Byte) (s : State) : StepResult := performCmp (.mem (.indy op8)) s

/-- CPX (R158): C, Z, N from X and M; X is not written. -/
def performCpx (src : ValueSource) (s : State) : StepResult :=
  withValue src s fun m => s.setFlags (s.flags.afterCompare s.x m)

/-- `CPX #$nn`, opcode 0xE0 (R158). -/
def execCpxImm (op8 : Byte) (s : State) : StepResult := performCpx (.imm op8) s
/-- `CPX $nn`, opcode 0xE4 (R158). -/
def execCpxZp (op8 : Byte) (s : State) : StepResult := performCpx (.mem (.zp op8)) s
/-- `CPX $nnnn`, opcode 0xEC (R158). -/
def execCpxAbs (op16 : Word) (s : State) : StepResult := performCpx (.mem (.abs op16)) s

/-- CPY (R159): C, Z, N from Y and M; Y is not written. -/
def performCpy (src : ValueSource) (s : State) : StepResult :=
  withValue src s fun m => s.setFlags (s.flags.afterCompare s.y m)

/-- `CPY #$nn`, opcode 0xC0 (R159). -/
def execCpyImm (op8 : Byte) (s : State) : StepResult := performCpy (.imm op8) s
/-- `CPY $nn`, opcode 0xC4 (R159). -/
def execCpyZp (op8 : Byte) (s : State) : StepResult := performCpy (.mem (.zp op8)) s
/-- `CPY $nnnn`, opcode 0xCC (R159). -/
def execCpyAbs (op16 : Word) (s : State) : StepResult := performCpy (.mem (.abs op16)) s

/-- BIT (R160): Z from `A & M`, N and V from M; A is not written. -/
def performBit (src : ValueSource) (s : State) : StepResult :=
  withValue src s fun m => s.setFlags (s.flags.afterBit s.a m)

/-- `BIT $nn`, opcode 0x24 (R160). -/
def execBitZp (op8 : Byte) (s : State) : StepResult := performBit (.mem (.zp op8)) s
/-- `BIT $nnnn`, opcode 0x2C (R160). -/
def execBitAbs (op16 : Word) (s : State) : StepResult := performBit (.mem (.abs op16)) s

end Sys2Proof.Machine
end

