-- ==== Sys2Proof/Machine/ControlFlow.lean ====
section
/-! DEFINITION. The meanings of the jumps, subroutines and branches (spec file 44). Each `perform…` is a
mnemonic's rule over its operand; each `exec…` is the meaning of one row of the opcode table. -/

namespace Sys2Proof.Machine

/-- The common rule of the eight branches (R191): the target is computed whether or not it is taken. -/
def branchIf (cond : Bool) (mode : AddrMode) (s : State) : StepResult :=
  withAddress mode s fun ea => if cond then s.setPc ea else s

/-- JMP (R190): `PC <- ea`. -/
def performJmp (mode : AddrMode) (s : State) : StepResult :=
  withAddress mode s s.setPc

/-- `JMP $nnnn`, opcode 0x4C (R190). -/
def execJmpAbs (op16 : Word) (s : State) : StepResult := performJmp (.abs op16) s
/-- `JMP ($nnnn)`, opcode 0x6C (R190). -/
def execJmpInd (op16 : Word) (s : State) : StepResult := performJmp (.ind op16) s

/-- JSR (R192): pushes the address of its own last byte, `PC -16 1`, then `PC <- ea`. -/
def performJsr (mode : AddrMode) (s : State) : StepResult :=
  withAddress mode s (push16 (s.pc - 1#16) s).setPc

/-- `JSR $nnnn`, opcode 0x20 (R192). -/
def execJsrAbs (op16 : Word) (s : State) : StepResult := performJsr (.abs op16) s

/-- RTS (R193): pulls a Word; `PC <- {hi, lo} +16 1`. -/
def performRts (s : State) : StepResult := .next ((pulled16 s).setPc (pulledWord s + 1#16))

/-- `RTS`, opcode 0x60 (R193). -/
def execRts (s : State) : StepResult := performRts s

/-- BCC (R194): taken when `C == false`. -/
def performBcc (mode : AddrMode) (s : State) : StepResult :=
  branchIf (!s.flags.c) mode s

/-- `BCC label`, opcode 0x90 (R194). -/
def execBccRel (op8 : Byte) (s : State) : StepResult := performBcc (.rel op8) s

/-- BCS (R195): taken when `C == true`. -/
def performBcs (mode : AddrMode) (s : State) : StepResult :=
  branchIf s.flags.c mode s

/-- `BCS label`, opcode 0xB0 (R195). -/
def execBcsRel (op8 : Byte) (s : State) : StepResult := performBcs (.rel op8) s

/-- BEQ (R196): taken when `Z == true`. -/
def performBeq (mode : AddrMode) (s : State) : StepResult :=
  branchIf s.flags.z mode s

/-- `BEQ label`, opcode 0xF0 (R196). -/
def execBeqRel (op8 : Byte) (s : State) : StepResult := performBeq (.rel op8) s

/-- BNE (R197): taken when `Z == false`. -/
def performBne (mode : AddrMode) (s : State) : StepResult :=
  branchIf (!s.flags.z) mode s

/-- `BNE label`, opcode 0xD0 (R197). -/
def execBneRel (op8 : Byte) (s : State) : StepResult := performBne (.rel op8) s

/-- BMI (R198): taken when `N == true`. -/
def performBmi (mode : AddrMode) (s : State) : StepResult :=
  branchIf s.flags.n mode s

/-- `BMI label`, opcode 0x30 (R198). -/
def execBmiRel (op8 : Byte) (s : State) : StepResult := performBmi (.rel op8) s

/-- BPL (R199): taken when `N == false`. -/
def performBpl (mode : AddrMode) (s : State) : StepResult :=
  branchIf (!s.flags.n) mode s

/-- `BPL label`, opcode 0x10 (R199). -/
def execBplRel (op8 : Byte) (s : State) : StepResult := performBpl (.rel op8) s

/-- BVC (R200): taken when `V == false`. -/
def performBvc (mode : AddrMode) (s : State) : StepResult :=
  branchIf (!s.flags.v) mode s

/-- `BVC label`, opcode 0x50 (R200). -/
def execBvcRel (op8 : Byte) (s : State) : StepResult := performBvc (.rel op8) s

/-- BVS (R201): taken when `V == true`. -/
def performBvs (mode : AddrMode) (s : State) : StepResult :=
  branchIf s.flags.v mode s

/-- `BVS label`, opcode 0x70 (R201). -/
def execBvsRel (op8 : Byte) (s : State) : StepResult := performBvs (.rel op8) s

end Sys2Proof.Machine
end

