-- ==== Sys2Proof/Machine/LoadStore.lean ====
section
/-! DEFINITION. The meanings of the loads, stores and register transfers (spec file 41). Each `perform…` is a
mnemonic's rule over its operand; each `exec…` is the meaning of one row of the opcode table. -/

namespace Sys2Proof.Machine

/-- LDA (R130): `A <- M; SetZN(A)`. -/
def performLda (src : ValueSource) (s : State) : StepResult :=
  withValue src s fun m => (s.setA m).setZN m

/-- `LDA #$nn`, opcode 0xA9 (R130). -/
def execLdaImm (op8 : Byte) (s : State) : StepResult := performLda (.imm op8) s
/-- `LDA $nn`, opcode 0xA5 (R130). -/
def execLdaZp (op8 : Byte) (s : State) : StepResult := performLda (.mem (.zp op8)) s
/-- `LDA $nn,X`, opcode 0xB5 (R130). -/
def execLdaZpx (op8 : Byte) (s : State) : StepResult := performLda (.mem (.zpx op8)) s
/-- `LDA $nnnn`, opcode 0xAD (R130). -/
def execLdaAbs (op16 : Word) (s : State) : StepResult := performLda (.mem (.abs op16)) s
/-- `LDA $nnnn,X`, opcode 0xBD (R130). -/
def execLdaAbsx (op16 : Word) (s : State) : StepResult := performLda (.mem (.absx op16)) s
/-- `LDA $nnnn,Y`, opcode 0xB9 (R130). -/
def execLdaAbsy (op16 : Word) (s : State) : StepResult := performLda (.mem (.absy op16)) s
/-- `LDA ($nn,X)`, opcode 0xA1 (R130). -/
def execLdaIndx (op8 : Byte) (s : State) : StepResult := performLda (.mem (.indx op8)) s
/-- `LDA ($nn),Y`, opcode 0xB1 (R130). -/
def execLdaIndy (op8 : Byte) (s : State) : StepResult := performLda (.mem (.indy op8)) s

/-- LDX (R131): `X <- M; SetZN(X)`. -/
def performLdx (src : ValueSource) (s : State) : StepResult :=
  withValue src s fun m => (s.setX m).setZN m

/-- `LDX #$nn`, opcode 0xA2 (R131). -/
def execLdxImm (op8 : Byte) (s : State) : StepResult := performLdx (.imm op8) s
/-- `LDX $nn`, opcode 0xA6 (R131). -/
def execLdxZp (op8 : Byte) (s : State) : StepResult := performLdx (.mem (.zp op8)) s
/-- `LDX $nn,Y`, opcode 0xB6 (R131). -/
def execLdxZpy (op8 : Byte) (s : State) : StepResult := performLdx (.mem (.zpy op8)) s
/-- `LDX $nnnn`, opcode 0xAE (R131). -/
def execLdxAbs (op16 : Word) (s : State) : StepResult := performLdx (.mem (.abs op16)) s
/-- `LDX $nnnn,Y`, opcode 0xBE (R131). -/
def execLdxAbsy (op16 : Word) (s : State) : StepResult := performLdx (.mem (.absy op16)) s

/-- LDY (R132): `Y <- M; SetZN(Y)`. -/
def performLdy (src : ValueSource) (s : State) : StepResult :=
  withValue src s fun m => (s.setY m).setZN m

/-- `LDY #$nn`, opcode 0xA0 (R132). -/
def execLdyImm (op8 : Byte) (s : State) : StepResult := performLdy (.imm op8) s
/-- `LDY $nn`, opcode 0xA4 (R132). -/
def execLdyZp (op8 : Byte) (s : State) : StepResult := performLdy (.mem (.zp op8)) s
/-- `LDY $nn,X`, opcode 0xB4 (R132). -/
def execLdyZpx (op8 : Byte) (s : State) : StepResult := performLdy (.mem (.zpx op8)) s
/-- `LDY $nnnn`, opcode 0xAC (R132). -/
def execLdyAbs (op16 : Word) (s : State) : StepResult := performLdy (.mem (.abs op16)) s
/-- `LDY $nnnn,X`, opcode 0xBC (R132). -/
def execLdyAbsx (op16 : Word) (s : State) : StepResult := performLdy (.mem (.absx op16)) s

/-- STA (R133): `MemWrite(ea, 1, A)`; no flag. -/
def performSta (mode : AddrMode) (s : State) : StepResult :=
  storeByte mode s.a s

/-- `STA $nn`, opcode 0x85 (R133). -/
def execStaZp (op8 : Byte) (s : State) : StepResult := performSta (.zp op8) s
/-- `STA $nn,X`, opcode 0x95 (R133). -/
def execStaZpx (op8 : Byte) (s : State) : StepResult := performSta (.zpx op8) s
/-- `STA $nnnn`, opcode 0x8D (R133). -/
def execStaAbs (op16 : Word) (s : State) : StepResult := performSta (.abs op16) s
/-- `STA $nnnn,X`, opcode 0x9D (R133). -/
def execStaAbsx (op16 : Word) (s : State) : StepResult := performSta (.absx op16) s
/-- `STA $nnnn,Y`, opcode 0x99 (R133). -/
def execStaAbsy (op16 : Word) (s : State) : StepResult := performSta (.absy op16) s
/-- `STA ($nn,X)`, opcode 0x81 (R133). -/
def execStaIndx (op8 : Byte) (s : State) : StepResult := performSta (.indx op8) s
/-- `STA ($nn),Y`, opcode 0x91 (R133). -/
def execStaIndy (op8 : Byte) (s : State) : StepResult := performSta (.indy op8) s

/-- STX (R134): `MemWrite(ea, 1, X)`; no flag. -/
def performStx (mode : AddrMode) (s : State) : StepResult :=
  storeByte mode s.x s

/-- `STX $nn`, opcode 0x86 (R134). -/
def execStxZp (op8 : Byte) (s : State) : StepResult := performStx (.zp op8) s
/-- `STX $nn,Y`, opcode 0x96 (R134). -/
def execStxZpy (op8 : Byte) (s : State) : StepResult := performStx (.zpy op8) s
/-- `STX $nnnn`, opcode 0x8E (R134). -/
def execStxAbs (op16 : Word) (s : State) : StepResult := performStx (.abs op16) s

/-- STY (R135): `MemWrite(ea, 1, Y)`; no flag. -/
def performSty (mode : AddrMode) (s : State) : StepResult :=
  storeByte mode s.y s

/-- `STY $nn`, opcode 0x84 (R135). -/
def execStyZp (op8 : Byte) (s : State) : StepResult := performSty (.zp op8) s
/-- `STY $nn,X`, opcode 0x94 (R135). -/
def execStyZpx (op8 : Byte) (s : State) : StepResult := performSty (.zpx op8) s
/-- `STY $nnnn`, opcode 0x8C (R135). -/
def execStyAbs (op16 : Word) (s : State) : StepResult := performSty (.abs op16) s

/-- TAX (R136): `X <- A; SetZN(X)`. -/
def performTax (s : State) : StepResult := .next ((s.setX s.a).setZN s.a)

/-- `TAX`, opcode 0xAA (R136). -/
def execTax (s : State) : StepResult := performTax s

/-- TAY (R137): `Y <- A; SetZN(Y)`. -/
def performTay (s : State) : StepResult := .next ((s.setY s.a).setZN s.a)

/-- `TAY`, opcode 0xA8 (R137). -/
def execTay (s : State) : StepResult := performTay s

/-- TXA (R138): `A <- X; SetZN(A)`. -/
def performTxa (s : State) : StepResult := .next ((s.setA s.x).setZN s.x)

/-- `TXA`, opcode 0x8A (R138). -/
def execTxa (s : State) : StepResult := performTxa s

/-- TYA (R139): `A <- Y; SetZN(A)`. -/
def performTya (s : State) : StepResult := .next ((s.setA s.y).setZN s.y)

/-- `TYA`, opcode 0x98 (R139). -/
def execTya (s : State) : StepResult := performTya s

/-- TSX (R140): `X <- SP; SetZN(X)`. -/
def performTsx (s : State) : StepResult := .next ((s.setX s.sp).setZN s.sp)

/-- `TSX`, opcode 0xBA (R140). -/
def execTsx (s : State) : StepResult := performTsx s

/-- TXS (R141): `SP <- X`; no flag. -/
def performTxs (s : State) : StepResult := .next (s.setSp s.x)

/-- `TXS`, opcode 0x9A (R141). -/
def execTxs (s : State) : StepResult := performTxs s

end Sys2Proof.Machine
end

