-- ==== Sys2Proof/Machine/ShiftIncDec.lean ====
section
/-! DEFINITION. The meanings of the shifts, rotates, increments and decrements (spec file 43). Each `perform…` is a
mnemonic's rule over its operand; each `exec…` is the meaning of one row of the opcode table. -/

namespace Sys2Proof.Machine

/-- ASL (R171): `C <- v[7]`. In memory. -/
def performAsl (mode : AddrMode) (s : State) : StepResult :=
  modifyByte mode s aslByte fun v => s.flags.afterShift (bitAt v 7) (aslByte v)

/-- ASL (R171): `C <- v[7]`. On the accumulator. -/
def performAslAcc (s : State) : StepResult :=
  modifyA s aslByte fun v => s.flags.afterShift (bitAt v 7) (aslByte v)

/-- `ASL A`, opcode 0x0A (R171). -/
def execAslAcc (s : State) : StepResult := performAslAcc s
/-- `ASL $nn`, opcode 0x06 (R171). -/
def execAslZp (op8 : Byte) (s : State) : StepResult := performAsl (.zp op8) s
/-- `ASL $nn,X`, opcode 0x16 (R171). -/
def execAslZpx (op8 : Byte) (s : State) : StepResult := performAsl (.zpx op8) s
/-- `ASL $nnnn`, opcode 0x0E (R171). -/
def execAslAbs (op16 : Word) (s : State) : StepResult := performAsl (.abs op16) s
/-- `ASL $nnnn,X`, opcode 0x1E (R171). -/
def execAslAbsx (op16 : Word) (s : State) : StepResult := performAsl (.absx op16) s

/-- LSR (R172): `C <- v[0]`. In memory. -/
def performLsr (mode : AddrMode) (s : State) : StepResult :=
  modifyByte mode s lsrByte fun v => s.flags.afterShift (bitAt v 0) (lsrByte v)

/-- LSR (R172): `C <- v[0]`. On the accumulator. -/
def performLsrAcc (s : State) : StepResult :=
  modifyA s lsrByte fun v => s.flags.afterShift (bitAt v 0) (lsrByte v)

/-- `LSR A`, opcode 0x4A (R172). -/
def execLsrAcc (s : State) : StepResult := performLsrAcc s
/-- `LSR $nn`, opcode 0x46 (R172). -/
def execLsrZp (op8 : Byte) (s : State) : StepResult := performLsr (.zp op8) s
/-- `LSR $nn,X`, opcode 0x56 (R172). -/
def execLsrZpx (op8 : Byte) (s : State) : StepResult := performLsr (.zpx op8) s
/-- `LSR $nnnn`, opcode 0x4E (R172). -/
def execLsrAbs (op16 : Word) (s : State) : StepResult := performLsr (.abs op16) s
/-- `LSR $nnnn,X`, opcode 0x5E (R172). -/
def execLsrAbsx (op16 : Word) (s : State) : StepResult := performLsr (.absx op16) s

/-- ROL (R173): `C <- v[7]`, bit 0 from the old carry. In memory. -/
def performRol (mode : AddrMode) (s : State) : StepResult :=
  modifyByte mode s (rolByte · s.flags.c) fun v =>
    s.flags.afterShift (bitAt v 7) (rolByte v s.flags.c)

/-- ROL (R173): `C <- v[7]`, bit 0 from the old carry. On the accumulator. -/
def performRolAcc (s : State) : StepResult :=
  modifyA s (rolByte · s.flags.c) fun v =>
    s.flags.afterShift (bitAt v 7) (rolByte v s.flags.c)

/-- `ROL A`, opcode 0x2A (R173). -/
def execRolAcc (s : State) : StepResult := performRolAcc s
/-- `ROL $nn`, opcode 0x26 (R173). -/
def execRolZp (op8 : Byte) (s : State) : StepResult := performRol (.zp op8) s
/-- `ROL $nn,X`, opcode 0x36 (R173). -/
def execRolZpx (op8 : Byte) (s : State) : StepResult := performRol (.zpx op8) s
/-- `ROL $nnnn`, opcode 0x2E (R173). -/
def execRolAbs (op16 : Word) (s : State) : StepResult := performRol (.abs op16) s
/-- `ROL $nnnn,X`, opcode 0x3E (R173). -/
def execRolAbsx (op16 : Word) (s : State) : StepResult := performRol (.absx op16) s

/-- ROR (R174): `C <- v[0]`, bit 7 from the old carry. In memory. -/
def performRor (mode : AddrMode) (s : State) : StepResult :=
  modifyByte mode s (rorByte · s.flags.c) fun v =>
    s.flags.afterShift (bitAt v 0) (rorByte v s.flags.c)

/-- ROR (R174): `C <- v[0]`, bit 7 from the old carry. On the accumulator. -/
def performRorAcc (s : State) : StepResult :=
  modifyA s (rorByte · s.flags.c) fun v =>
    s.flags.afterShift (bitAt v 0) (rorByte v s.flags.c)

/-- `ROR A`, opcode 0x6A (R174). -/
def execRorAcc (s : State) : StepResult := performRorAcc s
/-- `ROR $nn`, opcode 0x66 (R174). -/
def execRorZp (op8 : Byte) (s : State) : StepResult := performRor (.zp op8) s
/-- `ROR $nn,X`, opcode 0x76 (R174). -/
def execRorZpx (op8 : Byte) (s : State) : StepResult := performRor (.zpx op8) s
/-- `ROR $nnnn`, opcode 0x6E (R174). -/
def execRorAbs (op16 : Word) (s : State) : StepResult := performRor (.abs op16) s
/-- `ROR $nnnn,X`, opcode 0x7E (R174). -/
def execRorAbsx (op16 : Word) (s : State) : StepResult := performRor (.absx op16) s

/-- INC (R175): `r <- v +8 1`, Z and N from r. -/
def performInc (mode : AddrMode) (s : State) : StepResult :=
  modifyByte mode s (· + 1#8) fun v => s.flags.setZN (v + 1#8)

/-- `INC $nn`, opcode 0xE6 (R175). -/
def execIncZp (op8 : Byte) (s : State) : StepResult := performInc (.zp op8) s
/-- `INC $nn,X`, opcode 0xF6 (R175). -/
def execIncZpx (op8 : Byte) (s : State) : StepResult := performInc (.zpx op8) s
/-- `INC $nnnn`, opcode 0xEE (R175). -/
def execIncAbs (op16 : Word) (s : State) : StepResult := performInc (.abs op16) s
/-- `INC $nnnn,X`, opcode 0xFE (R175). -/
def execIncAbsx (op16 : Word) (s : State) : StepResult := performInc (.absx op16) s

/-- DEC (R176): `r <- v -8 1`, Z and N from r. -/
def performDec (mode : AddrMode) (s : State) : StepResult :=
  modifyByte mode s (· - 1#8) fun v => s.flags.setZN (v - 1#8)

/-- `DEC $nn`, opcode 0xC6 (R176). -/
def execDecZp (op8 : Byte) (s : State) : StepResult := performDec (.zp op8) s
/-- `DEC $nn,X`, opcode 0xD6 (R176). -/
def execDecZpx (op8 : Byte) (s : State) : StepResult := performDec (.zpx op8) s
/-- `DEC $nnnn`, opcode 0xCE (R176). -/
def execDecAbs (op16 : Word) (s : State) : StepResult := performDec (.abs op16) s
/-- `DEC $nnnn,X`, opcode 0xDE (R176). -/
def execDecAbsx (op16 : Word) (s : State) : StepResult := performDec (.absx op16) s

/-- INX (R177): `X <- X +8 1; SetZN(X)`. -/
def performInx (s : State) : StepResult := .next ((s.setX (s.x + 1#8)).setZN (s.x + 1#8))

/-- `INX`, opcode 0xE8 (R177). -/
def execInx (s : State) : StepResult := performInx s

/-- INY (R178): `Y <- Y +8 1; SetZN(Y)`. -/
def performIny (s : State) : StepResult := .next ((s.setY (s.y + 1#8)).setZN (s.y + 1#8))

/-- `INY`, opcode 0xC8 (R178). -/
def execIny (s : State) : StepResult := performIny s

/-- DEX (R179): `X <- X -8 1; SetZN(X)`. -/
def performDex (s : State) : StepResult := .next ((s.setX (s.x - 1#8)).setZN (s.x - 1#8))

/-- `DEX`, opcode 0xCA (R179). -/
def execDex (s : State) : StepResult := performDex s

/-- DEY (R180): `Y <- Y -8 1; SetZN(Y)`. -/
def performDey (s : State) : StepResult := .next ((s.setY (s.y - 1#8)).setZN (s.y - 1#8))

/-- `DEY`, opcode 0x88 (R180). -/
def execDey (s : State) : StepResult := performDey s

end Sys2Proof.Machine
end

