-- ==== Sys2Proof/Machine/StackFlags.lean ====
section
/-! DEFINITION. The meanings of the stack, flag and system instructions (spec file 45). Each `perform…` is a
mnemonic's rule over its operand; each `exec…` is the meaning of one row of the opcode table. -/

namespace Sys2Proof.Machine

/-- PHA (R210): `Push(A)`. -/
def performPha (s : State) : StepResult := .next (push s.a s)

/-- `PHA`, opcode 0x48 (R210). -/
def execPha (s : State) : StepResult := performPha s

/-- PHP (R211): `Push(PackP())`. -/
def performPhp (s : State) : StepResult := .next (push s.flags.pack s)

/-- `PHP`, opcode 0x08 (R211). -/
def execPhp (s : State) : StepResult := performPhp s

/-- PLA (R212): `A <- Pull(); SetZN(A)`. -/
def performPla (s : State) : StepResult := 
  .next (((pulled s).setA (pulledByte s)).setZN (pulledByte s))

/-- `PLA`, opcode 0x68 (R212). -/
def execPla (s : State) : StepResult := performPla s

/-- PLP (R213): `UnpackP(Pull())`; B unchanged. -/
def performPlp (s : State) : StepResult := 
  .next ((pulled s).setFlags (s.flags.unpack (pulledByte s)))

/-- `PLP`, opcode 0x28 (R213). -/
def execPlp (s : State) : StepResult := performPlp s

/-- CLC (R214): `C <- false`. -/
def performClc (s : State) : StepResult := .next (s.setFlags { s.flags with c := false })

/-- `CLC`, opcode 0x18 (R214). -/
def execClc (s : State) : StepResult := performClc s

/-- SEC (R215): `C <- true`. -/
def performSec (s : State) : StepResult := .next (s.setFlags { s.flags with c := true })

/-- `SEC`, opcode 0x38 (R215). -/
def execSec (s : State) : StepResult := performSec s

/-- CLI (R216): `I <- false`. -/
def performCli (s : State) : StepResult := .next (s.setFlags { s.flags with i := false })

/-- `CLI`, opcode 0x58 (R216). -/
def execCli (s : State) : StepResult := performCli s

/-- SEI (R217): `I <- true`. -/
def performSei (s : State) : StepResult := .next (s.setFlags { s.flags with i := true })

/-- `SEI`, opcode 0x78 (R217). -/
def execSei (s : State) : StepResult := performSei s

/-- CLD (R218): `D <- false`. -/
def performCld (s : State) : StepResult := .next (s.setFlags { s.flags with d := false })

/-- `CLD`, opcode 0xD8 (R218). -/
def execCld (s : State) : StepResult := performCld s

/-- SED (R219): `D <- true`. -/
def performSed (s : State) : StepResult := .next (s.setFlags { s.flags with d := true })

/-- `SED`, opcode 0xF8 (R219). -/
def execSed (s : State) : StepResult := performSed s

/-- CLV (R220): `V <- false`. -/
def performClv (s : State) : StepResult := .next (s.setFlags { s.flags with v := false })

/-- `CLV`, opcode 0xB8 (R220). -/
def execClv (s : State) : StepResult := performClv s

/-- NOP (R221): nothing; PC is already past it. -/
def performNop (s : State) : StepResult := .next s

/-- `NOP`, opcode 0xEA (R221). -/
def execNop (s : State) : StepResult := performNop s

/-- RTI (R222): the return from interrupt, whatever the program put on the stack. -/
def performRti (s : State) : StepResult := .next (returnFromInterrupt s)

/-- `RTI`, opcode 0x40 (R222). -/
def execRti (s : State) : StepResult := performRti s

/-- BRK (R223): halts the run loop and does nothing else. -/
def performBrk (s : State) : StepResult := .next (haltBreak s)

/-- `BRK`, opcode 0x00 (R223). -/
def execBrk (s : State) : StepResult := performBrk s

end Sys2Proof.Machine
end

