-- ==== Sys2Proof/Machine/Dispatch.lean ====
section
/-! DEFINITION. The executor (R84, R266): one arm per row of the opcode table, each a direct call of that
row's meaning. On entry PC already holds the address of the next sequential instruction (R26). -/

namespace Sys2Proof.Machine

def exec (i : Instr) (s : State) : Host.Outcome State Fault Refusal :=
  match i with
  -- loads, stores and register transfers (spec file 41)
  | .ldaImm op8 => Sys2Proof.Machine.execLdaImm op8 s
  | .ldaZp op8 => Sys2Proof.Machine.execLdaZp op8 s
  | .ldaZpx op8 => Sys2Proof.Machine.execLdaZpx op8 s
  | .ldaAbs op16 => Sys2Proof.Machine.execLdaAbs op16 s
  | .ldaAbsx op16 => Sys2Proof.Machine.execLdaAbsx op16 s
  | .ldaAbsy op16 => Sys2Proof.Machine.execLdaAbsy op16 s
  | .ldaIndx op8 => Sys2Proof.Machine.execLdaIndx op8 s
  | .ldaIndy op8 => Sys2Proof.Machine.execLdaIndy op8 s
  | .ldxImm op8 => Sys2Proof.Machine.execLdxImm op8 s
  | .ldxZp op8 => Sys2Proof.Machine.execLdxZp op8 s
  | .ldxZpy op8 => Sys2Proof.Machine.execLdxZpy op8 s
  | .ldxAbs op16 => Sys2Proof.Machine.execLdxAbs op16 s
  | .ldxAbsy op16 => Sys2Proof.Machine.execLdxAbsy op16 s
  | .ldyImm op8 => Sys2Proof.Machine.execLdyImm op8 s
  | .ldyZp op8 => Sys2Proof.Machine.execLdyZp op8 s
  | .ldyZpx op8 => Sys2Proof.Machine.execLdyZpx op8 s
  | .ldyAbs op16 => Sys2Proof.Machine.execLdyAbs op16 s
  | .ldyAbsx op16 => Sys2Proof.Machine.execLdyAbsx op16 s
  | .staZp op8 => Sys2Proof.Machine.execStaZp op8 s
  | .staZpx op8 => Sys2Proof.Machine.execStaZpx op8 s
  | .staAbs op16 => Sys2Proof.Machine.execStaAbs op16 s
  | .staAbsx op16 => Sys2Proof.Machine.execStaAbsx op16 s
  | .staAbsy op16 => Sys2Proof.Machine.execStaAbsy op16 s
  | .staIndx op8 => Sys2Proof.Machine.execStaIndx op8 s
  | .staIndy op8 => Sys2Proof.Machine.execStaIndy op8 s
  | .stxZp op8 => Sys2Proof.Machine.execStxZp op8 s
  | .stxZpy op8 => Sys2Proof.Machine.execStxZpy op8 s
  | .stxAbs op16 => Sys2Proof.Machine.execStxAbs op16 s
  | .styZp op8 => Sys2Proof.Machine.execStyZp op8 s
  | .styZpx op8 => Sys2Proof.Machine.execStyZpx op8 s
  | .styAbs op16 => Sys2Proof.Machine.execStyAbs op16 s
  | .tax => Sys2Proof.Machine.execTax s
  | .tay => Sys2Proof.Machine.execTay s
  | .txa => Sys2Proof.Machine.execTxa s
  | .tya => Sys2Proof.Machine.execTya s
  | .tsx => Sys2Proof.Machine.execTsx s
  | .txs => Sys2Proof.Machine.execTxs s
  -- arithmetic, logic, compare and bit test (spec file 42)
  | .adcImm op8 => Sys2Proof.Machine.execAdcImm op8 s
  | .adcZp op8 => Sys2Proof.Machine.execAdcZp op8 s
  | .adcZpx op8 => Sys2Proof.Machine.execAdcZpx op8 s
  | .adcAbs op16 => Sys2Proof.Machine.execAdcAbs op16 s
  | .adcAbsx op16 => Sys2Proof.Machine.execAdcAbsx op16 s
  | .adcAbsy op16 => Sys2Proof.Machine.execAdcAbsy op16 s
  | .adcIndx op8 => Sys2Proof.Machine.execAdcIndx op8 s
  | .adcIndy op8 => Sys2Proof.Machine.execAdcIndy op8 s
  | .sbcImm op8 => Sys2Proof.Machine.execSbcImm op8 s
  | .sbcZp op8 => Sys2Proof.Machine.execSbcZp op8 s
  | .sbcZpx op8 => Sys2Proof.Machine.execSbcZpx op8 s
  | .sbcAbs op16 => Sys2Proof.Machine.execSbcAbs op16 s
  | .sbcAbsx op16 => Sys2Proof.Machine.execSbcAbsx op16 s
  | .sbcAbsy op16 => Sys2Proof.Machine.execSbcAbsy op16 s
  | .sbcIndx op8 => Sys2Proof.Machine.execSbcIndx op8 s
  | .sbcIndy op8 => Sys2Proof.Machine.execSbcIndy op8 s
  | .andImm op8 => Sys2Proof.Machine.execAndImm op8 s
  | .andZp op8 => Sys2Proof.Machine.execAndZp op8 s
  | .andZpx op8 => Sys2Proof.Machine.execAndZpx op8 s
  | .andAbs op16 => Sys2Proof.Machine.execAndAbs op16 s
  | .andAbsx op16 => Sys2Proof.Machine.execAndAbsx op16 s
  | .andAbsy op16 => Sys2Proof.Machine.execAndAbsy op16 s
  | .andIndx op8 => Sys2Proof.Machine.execAndIndx op8 s
  | .andIndy op8 => Sys2Proof.Machine.execAndIndy op8 s
  | .oraImm op8 => Sys2Proof.Machine.execOraImm op8 s
  | .oraZp op8 => Sys2Proof.Machine.execOraZp op8 s
  | .oraZpx op8 => Sys2Proof.Machine.execOraZpx op8 s
  | .oraAbs op16 => Sys2Proof.Machine.execOraAbs op16 s
  | .oraAbsx op16 => Sys2Proof.Machine.execOraAbsx op16 s
  | .oraAbsy op16 => Sys2Proof.Machine.execOraAbsy op16 s
  | .oraIndx op8 => Sys2Proof.Machine.execOraIndx op8 s
  | .oraIndy op8 => Sys2Proof.Machine.execOraIndy op8 s
  | .eorImm op8 => Sys2Proof.Machine.execEorImm op8 s
  | .eorZp op8 => Sys2Proof.Machine.execEorZp op8 s
  | .eorZpx op8 => Sys2Proof.Machine.execEorZpx op8 s
  | .eorAbs op16 => Sys2Proof.Machine.execEorAbs op16 s
  | .eorAbsx op16 => Sys2Proof.Machine.execEorAbsx op16 s
  | .eorAbsy op16 => Sys2Proof.Machine.execEorAbsy op16 s
  | .eorIndx op8 => Sys2Proof.Machine.execEorIndx op8 s
  | .eorIndy op8 => Sys2Proof.Machine.execEorIndy op8 s
  | .cmpImm op8 => Sys2Proof.Machine.execCmpImm op8 s
  | .cmpZp op8 => Sys2Proof.Machine.execCmpZp op8 s
  | .cmpZpx op8 => Sys2Proof.Machine.execCmpZpx op8 s
  | .cmpAbs op16 => Sys2Proof.Machine.execCmpAbs op16 s
  | .cmpAbsx op16 => Sys2Proof.Machine.execCmpAbsx op16 s
  | .cmpAbsy op16 => Sys2Proof.Machine.execCmpAbsy op16 s
  | .cmpIndx op8 => Sys2Proof.Machine.execCmpIndx op8 s
  | .cmpIndy op8 => Sys2Proof.Machine.execCmpIndy op8 s
  | .cpxImm op8 => Sys2Proof.Machine.execCpxImm op8 s
  | .cpxZp op8 => Sys2Proof.Machine.execCpxZp op8 s
  | .cpxAbs op16 => Sys2Proof.Machine.execCpxAbs op16 s
  | .cpyImm op8 => Sys2Proof.Machine.execCpyImm op8 s
  | .cpyZp op8 => Sys2Proof.Machine.execCpyZp op8 s
  | .cpyAbs op16 => Sys2Proof.Machine.execCpyAbs op16 s
  | .bitZp op8 => Sys2Proof.Machine.execBitZp op8 s
  | .bitAbs op16 => Sys2Proof.Machine.execBitAbs op16 s
  -- shifts, rotates, increments and decrements (spec file 43)
  | .aslAcc => Sys2Proof.Machine.execAslAcc s
  | .aslZp op8 => Sys2Proof.Machine.execAslZp op8 s
  | .aslZpx op8 => Sys2Proof.Machine.execAslZpx op8 s
  | .aslAbs op16 => Sys2Proof.Machine.execAslAbs op16 s
  | .aslAbsx op16 => Sys2Proof.Machine.execAslAbsx op16 s
  | .lsrAcc => Sys2Proof.Machine.execLsrAcc s
  | .lsrZp op8 => Sys2Proof.Machine.execLsrZp op8 s
  | .lsrZpx op8 => Sys2Proof.Machine.execLsrZpx op8 s
  | .lsrAbs op16 => Sys2Proof.Machine.execLsrAbs op16 s
  | .lsrAbsx op16 => Sys2Proof.Machine.execLsrAbsx op16 s
  | .rolAcc => Sys2Proof.Machine.execRolAcc s
  | .rolZp op8 => Sys2Proof.Machine.execRolZp op8 s
  | .rolZpx op8 => Sys2Proof.Machine.execRolZpx op8 s
  | .rolAbs op16 => Sys2Proof.Machine.execRolAbs op16 s
  | .rolAbsx op16 => Sys2Proof.Machine.execRolAbsx op16 s
  | .rorAcc => Sys2Proof.Machine.execRorAcc s
  | .rorZp op8 => Sys2Proof.Machine.execRorZp op8 s
  | .rorZpx op8 => Sys2Proof.Machine.execRorZpx op8 s
  | .rorAbs op16 => Sys2Proof.Machine.execRorAbs op16 s
  | .rorAbsx op16 => Sys2Proof.Machine.execRorAbsx op16 s
  | .incZp op8 => Sys2Proof.Machine.execIncZp op8 s
  | .incZpx op8 => Sys2Proof.Machine.execIncZpx op8 s
  | .incAbs op16 => Sys2Proof.Machine.execIncAbs op16 s
  | .incAbsx op16 => Sys2Proof.Machine.execIncAbsx op16 s
  | .decZp op8 => Sys2Proof.Machine.execDecZp op8 s
  | .decZpx op8 => Sys2Proof.Machine.execDecZpx op8 s
  | .decAbs op16 => Sys2Proof.Machine.execDecAbs op16 s
  | .decAbsx op16 => Sys2Proof.Machine.execDecAbsx op16 s
  | .inx => Sys2Proof.Machine.execInx s
  | .iny => Sys2Proof.Machine.execIny s
  | .dex => Sys2Proof.Machine.execDex s
  | .dey => Sys2Proof.Machine.execDey s
  -- jumps, subroutines and branches (spec file 44)
  | .jmpAbs op16 => Sys2Proof.Machine.execJmpAbs op16 s
  | .jmpInd op16 => Sys2Proof.Machine.execJmpInd op16 s
  | .jsrAbs op16 => Sys2Proof.Machine.execJsrAbs op16 s
  | .rts => Sys2Proof.Machine.execRts s
  | .bccRel op8 => Sys2Proof.Machine.execBccRel op8 s
  | .bcsRel op8 => Sys2Proof.Machine.execBcsRel op8 s
  | .beqRel op8 => Sys2Proof.Machine.execBeqRel op8 s
  | .bneRel op8 => Sys2Proof.Machine.execBneRel op8 s
  | .bmiRel op8 => Sys2Proof.Machine.execBmiRel op8 s
  | .bplRel op8 => Sys2Proof.Machine.execBplRel op8 s
  | .bvcRel op8 => Sys2Proof.Machine.execBvcRel op8 s
  | .bvsRel op8 => Sys2Proof.Machine.execBvsRel op8 s
  -- stack, flag and system instructions (spec file 45)
  | .pha => Sys2Proof.Machine.execPha s
  | .php => Sys2Proof.Machine.execPhp s
  | .pla => Sys2Proof.Machine.execPla s
  | .plp => Sys2Proof.Machine.execPlp s
  | .clc => Sys2Proof.Machine.execClc s
  | .sec => Sys2Proof.Machine.execSec s
  | .cli => Sys2Proof.Machine.execCli s
  | .sei => Sys2Proof.Machine.execSei s
  | .cld => Sys2Proof.Machine.execCld s
  | .sed => Sys2Proof.Machine.execSed s
  | .clv => Sys2Proof.Machine.execClv s
  | .nop => Sys2Proof.Machine.execNop s
  | .rti => Sys2Proof.Machine.execRti s
  | .brk => Sys2Proof.Machine.execBrk s

end Sys2Proof.Machine
end

