-- ==== Sys2Proof/WellFormed.lean ====
section
/-! DEFINITION. Which Operations the decode table can produce (R84, R86): the pair of mnemonic and format
has a row, and the operand's kind is the one R84 assigns. Both are checks on an Operation; an `Instr`
passes them by construction (Sys2Proof/Laws/PerInstr.lean). -/

namespace Sys2Proof

/-- The formats in which a mnemonic has an opcode: the non-empty cells of its row of R86. -/
def Mnemonic.formats : Mnemonic → List Format
  | .lda => [.imm, .zp, .zpx, .abs, .absx, .absy, .indx, .indy]
  | .ldx => [.imm, .zp, .zpy, .abs, .absy]
  | .ldy => [.imm, .zp, .zpx, .abs, .absx]
  | .sta => [.zp, .zpx, .abs, .absx, .absy, .indx, .indy]
  | .stx => [.zp, .zpy, .abs]
  | .sty => [.zp, .zpx, .abs]
  | .tax => [.imp]
  | .tay => [.imp]
  | .txa => [.imp]
  | .tya => [.imp]
  | .tsx => [.imp]
  | .txs => [.imp]
  | .adc => [.imm, .zp, .zpx, .abs, .absx, .absy, .indx, .indy]
  | .sbc => [.imm, .zp, .zpx, .abs, .absx, .absy, .indx, .indy]
  | .and => [.imm, .zp, .zpx, .abs, .absx, .absy, .indx, .indy]
  | .ora => [.imm, .zp, .zpx, .abs, .absx, .absy, .indx, .indy]
  | .eor => [.imm, .zp, .zpx, .abs, .absx, .absy, .indx, .indy]
  | .cmp => [.imm, .zp, .zpx, .abs, .absx, .absy, .indx, .indy]
  | .cpx => [.imm, .zp, .abs]
  | .cpy => [.imm, .zp, .abs]
  | .bit => [.zp, .abs]
  | .asl => [.acc, .zp, .zpx, .abs, .absx]
  | .lsr => [.acc, .zp, .zpx, .abs, .absx]
  | .rol => [.acc, .zp, .zpx, .abs, .absx]
  | .ror => [.acc, .zp, .zpx, .abs, .absx]
  | .inc => [.zp, .zpx, .abs, .absx]
  | .dec => [.zp, .zpx, .abs, .absx]
  | .inx => [.imp]
  | .iny => [.imp]
  | .dex => [.imp]
  | .dey => [.imp]
  | .jmp => [.abs, .ind]
  | .jsr => [.abs]
  | .rts => [.imp]
  | .bcc => [.rel]
  | .bcs => [.rel]
  | .beq => [.rel]
  | .bne => [.rel]
  | .bmi => [.rel]
  | .bpl => [.rel]
  | .bvc => [.rel]
  | .bvs => [.rel]
  | .pha => [.imp]
  | .php => [.imp]
  | .pla => [.imp]
  | .plp => [.imp]
  | .clc => [.imp]
  | .sec => [.imp]
  | .cli => [.imp]
  | .sei => [.imp]
  | .cld => [.imp]
  | .sed => [.imp]
  | .clv => [.imp]
  | .nop => [.imp]
  | .rti => [.imp]
  | .brk => [.imp]

/-- The operand kind R84 assigns to a mnemonic in a format: a function of the mnemonic and of whether
the format is IMP or ACC. -/
def Mnemonic.kindIn (m : Mnemonic) (f : Format) : Kind :=
  if f = .imp ∨ f = .acc then .none
  else if m ∈ [.adc, .and, .bit, .cmp, .cpx, .cpy, .eor, .lda, .ldx, .ldy, .ora, .sbc] then .value
  else .location

/-- The check that the table has a row for the mnemonic in the operand's format (R86). -/
def Operation.hasRow (op : Operation) : Bool := op.mnemonic.formats.contains op.operand.format

/-- The check that the operand's kind is the one of R84. -/
def Operation.kindOk (op : Operation) : Bool :=
  op.operand.kind == op.mnemonic.kindIn op.operand.format

/-- An Operation the decode table can produce. -/
def Operation.wf (op : Operation) : Bool := op.hasRow && op.kindOk

/-- The well-formedness of an instruction: that of its Operation. -/
abbrev Instr.WellFormed (i : Instr) : Prop := i.operation.wf = true

end Sys2Proof
end

