-- ==== Sys2Proof/Decode.lean ====
section
/-! DEFINITION. The decoder: the opcode table (R86, R88), operand assembly (R83), decoding total on any
bytes and rejecting by name (R85, R87), and the encoder. -/

namespace Sys2Proof

/-- What a table entry builds once the operand bytes are read: 0, 1 or 2 of them (R81-R83). -/
inductive Template where
  | implied (i : Instr)
  | withByte (f : Byte → Instr)
  | withWord (f : Word → Instr)

/-- The rows of R86 for loads, stores and register transfers (spec file 41). -/
def loadStoreRows : List (Byte × Template) :=
  [(0xA9#8, .withByte .ldaImm), (0xA5#8, .withByte .ldaZp), (0xB5#8, .withByte .ldaZpx),
   (0xAD#8, .withWord .ldaAbs), (0xBD#8, .withWord .ldaAbsx), (0xB9#8, .withWord .ldaAbsy),
   (0xA1#8, .withByte .ldaIndx), (0xB1#8, .withByte .ldaIndy),
   (0xA2#8, .withByte .ldxImm), (0xA6#8, .withByte .ldxZp), (0xB6#8, .withByte .ldxZpy),
   (0xAE#8, .withWord .ldxAbs), (0xBE#8, .withWord .ldxAbsy),
   (0xA0#8, .withByte .ldyImm), (0xA4#8, .withByte .ldyZp), (0xB4#8, .withByte .ldyZpx),
   (0xAC#8, .withWord .ldyAbs), (0xBC#8, .withWord .ldyAbsx),
   (0x85#8, .withByte .staZp), (0x95#8, .withByte .staZpx), (0x8D#8, .withWord .staAbs),
   (0x9D#8, .withWord .staAbsx), (0x99#8, .withWord .staAbsy), (0x81#8, .withByte .staIndx),
   (0x91#8, .withByte .staIndy),
   (0x86#8, .withByte .stxZp), (0x96#8, .withByte .stxZpy), (0x8E#8, .withWord .stxAbs),
   (0x84#8, .withByte .styZp), (0x94#8, .withByte .styZpx), (0x8C#8, .withWord .styAbs),
   (0xAA#8, .implied .tax),
   (0xA8#8, .implied .tay),
   (0x8A#8, .implied .txa),
   (0x98#8, .implied .tya),
   (0xBA#8, .implied .tsx),
   (0x9A#8, .implied .txs)]

/-- The rows of R86 for arithmetic, logic, compare and bit test (spec file 42). -/
def aluRows : List (Byte × Template) :=
  [(0x69#8, .withByte .adcImm), (0x65#8, .withByte .adcZp), (0x75#8, .withByte .adcZpx),
   (0x6D#8, .withWord .adcAbs), (0x7D#8, .withWord .adcAbsx), (0x79#8, .withWord .adcAbsy),
   (0x61#8, .withByte .adcIndx), (0x71#8, .withByte .adcIndy),
   (0xE9#8, .withByte .sbcImm), (0xE5#8, .withByte .sbcZp), (0xF5#8, .withByte .sbcZpx),
   (0xED#8, .withWord .sbcAbs), (0xFD#8, .withWord .sbcAbsx), (0xF9#8, .withWord .sbcAbsy),
   (0xE1#8, .withByte .sbcIndx), (0xF1#8, .withByte .sbcIndy),
   (0x29#8, .withByte .andImm), (0x25#8, .withByte .andZp), (0x35#8, .withByte .andZpx),
   (0x2D#8, .withWord .andAbs), (0x3D#8, .withWord .andAbsx), (0x39#8, .withWord .andAbsy),
   (0x21#8, .withByte .andIndx), (0x31#8, .withByte .andIndy),
   (0x09#8, .withByte .oraImm), (0x05#8, .withByte .oraZp), (0x15#8, .withByte .oraZpx),
   (0x0D#8, .withWord .oraAbs), (0x1D#8, .withWord .oraAbsx), (0x19#8, .withWord .oraAbsy),
   (0x01#8, .withByte .oraIndx), (0x11#8, .withByte .oraIndy),
   (0x49#8, .withByte .eorImm), (0x45#8, .withByte .eorZp), (0x55#8, .withByte .eorZpx),
   (0x4D#8, .withWord .eorAbs), (0x5D#8, .withWord .eorAbsx), (0x59#8, .withWord .eorAbsy),
   (0x41#8, .withByte .eorIndx), (0x51#8, .withByte .eorIndy),
   (0xC9#8, .withByte .cmpImm), (0xC5#8, .withByte .cmpZp), (0xD5#8, .withByte .cmpZpx),
   (0xCD#8, .withWord .cmpAbs), (0xDD#8, .withWord .cmpAbsx), (0xD9#8, .withWord .cmpAbsy),
   (0xC1#8, .withByte .cmpIndx), (0xD1#8, .withByte .cmpIndy),
   (0xE0#8, .withByte .cpxImm), (0xE4#8, .withByte .cpxZp), (0xEC#8, .withWord .cpxAbs),
   (0xC0#8, .withByte .cpyImm), (0xC4#8, .withByte .cpyZp), (0xCC#8, .withWord .cpyAbs),
   (0x24#8, .withByte .bitZp), (0x2C#8, .withWord .bitAbs)]

/-- The rows of R86 for shifts, rotates, increments and decrements (spec file 43). -/
def shiftIncDecRows : List (Byte × Template) :=
  [(0x0A#8, .implied .aslAcc), (0x06#8, .withByte .aslZp), (0x16#8, .withByte .aslZpx),
   (0x0E#8, .withWord .aslAbs), (0x1E#8, .withWord .aslAbsx),
   (0x4A#8, .implied .lsrAcc), (0x46#8, .withByte .lsrZp), (0x56#8, .withByte .lsrZpx),
   (0x4E#8, .withWord .lsrAbs), (0x5E#8, .withWord .lsrAbsx),
   (0x2A#8, .implied .rolAcc), (0x26#8, .withByte .rolZp), (0x36#8, .withByte .rolZpx),
   (0x2E#8, .withWord .rolAbs), (0x3E#8, .withWord .rolAbsx),
   (0x6A#8, .implied .rorAcc), (0x66#8, .withByte .rorZp), (0x76#8, .withByte .rorZpx),
   (0x6E#8, .withWord .rorAbs), (0x7E#8, .withWord .rorAbsx),
   (0xE6#8, .withByte .incZp), (0xF6#8, .withByte .incZpx), (0xEE#8, .withWord .incAbs),
   (0xFE#8, .withWord .incAbsx),
   (0xC6#8, .withByte .decZp), (0xD6#8, .withByte .decZpx), (0xCE#8, .withWord .decAbs),
   (0xDE#8, .withWord .decAbsx),
   (0xE8#8, .implied .inx),
   (0xC8#8, .implied .iny),
   (0xCA#8, .implied .dex),
   (0x88#8, .implied .dey)]

/-- The rows of R86 for jumps, subroutines and branches (spec file 44). -/
def controlFlowRows : List (Byte × Template) :=
  [(0x4C#8, .withWord .jmpAbs), (0x6C#8, .withWord .jmpInd),
   (0x20#8, .withWord .jsrAbs),
   (0x60#8, .implied .rts),
   (0x90#8, .withByte .bccRel),
   (0xB0#8, .withByte .bcsRel),
   (0xF0#8, .withByte .beqRel),
   (0xD0#8, .withByte .bneRel),
   (0x30#8, .withByte .bmiRel),
   (0x10#8, .withByte .bplRel),
   (0x50#8, .withByte .bvcRel),
   (0x70#8, .withByte .bvsRel)]

/-- The rows of R86 for stack, flag and system instructions (spec file 45). -/
def stackFlagsRows : List (Byte × Template) :=
  [(0x48#8, .implied .pha),
   (0x08#8, .implied .php),
   (0x68#8, .implied .pla),
   (0x28#8, .implied .plp),
   (0x18#8, .implied .clc),
   (0x38#8, .implied .sec),
   (0x58#8, .implied .cli),
   (0x78#8, .implied .sei),
   (0xD8#8, .implied .cld),
   (0xF8#8, .implied .sed),
   (0xB8#8, .implied .clv),
   (0xEA#8, .implied .nop),
   (0x40#8, .implied .rti),
   (0x00#8, .implied .brk)]

/-- The complete decode table: 151 rows (R86). -/
def opcodeTable : List (Byte × Template) :=
  loadStoreRows ++ aluRows ++ shiftIncDecRows ++ controlFlowRows ++ stackFlagsRows

/-- The first row of a list of rows whose opcode byte is the given one. -/
def findRow (opc : Byte) : List (Byte × Template) → Option Template
  | [] => none
  | (b, t) :: rows => if b = opc then some t else findRow opc rows

/-- `lookup(opc)` of R85: the whole opcode byte is compared (R80); none for the 105 bytes of R87. -/
def lookup (opc : Byte) : Option Template := findRow opc opcodeTable

/-- Why bytes are not an instruction. -/
inductive DecodeError where
  /-- The bytes end before the instruction does. -/
  | truncated
  /-- The opcode byte has no row (R87). -/
  | unimplementedOpcode (opcode : Byte)
  deriving DecidableEq, Repr

/-- Decodes the instruction at the head of a list of bytes and returns it with the rest (R85): the opcode
selects the row, the row says how many operand bytes follow, and a two-byte operand has its low byte first
(R83). Total on any bytes. -/
def decode : List Byte → Except DecodeError (Instr × List Byte)
  | [] => .error .truncated
  | opc :: rest =>
    match lookup opc with
    | none => .error (.unimplementedOpcode opc)
    | some (.implied i) => .ok (i, rest)
    | some (.withByte f) =>
      match rest with
      | b1 :: rest => .ok (f b1, rest)
      | [] => .error .truncated
    | some (.withWord f) =>
      match rest with
      | b1 :: b2 :: rest => .ok (f (mkWord b2 b1), rest)
      | _ => .error .truncated

/-- The three bytes of a number whose bit 0 is bit 0 of the first byte, as they lie in memory. -/
def tableBytes (nbits w : Nat) : List Byte :=
  let w := w % 2 ^ nbits
  [BitVec.ofNat 8 w, BitVec.ofNat 8 (w / 2 ^ 8), BitVec.ofNat 8 (w / 2 ^ 16)]

/-- The instruction the decoder reads from a word numbered as spec/opcode_table.json numbers it. -/
def decodeTableWord (nbits w : Nat) : Option Instr :=
  match decode (tableBytes nbits w) with
  | .ok (i, _) => some i
  | .error _ => none

/-- The bytes of an instruction: its opcode of R86, then its operand, low byte first (R83). -/
def encode : Instr → List Byte
  | .ldaImm op8 => [0xA9#8, op8]
  | .ldaZp op8 => [0xA5#8, op8]
  | .ldaZpx op8 => [0xB5#8, op8]
  | .ldaAbs op16 => [0xAD#8, loByte op16, hiByte op16]
  | .ldaAbsx op16 => [0xBD#8, loByte op16, hiByte op16]
  | .ldaAbsy op16 => [0xB9#8, loByte op16, hiByte op16]
  | .ldaIndx op8 => [0xA1#8, op8]
  | .ldaIndy op8 => [0xB1#8, op8]
  | .ldxImm op8 => [0xA2#8, op8]
  | .ldxZp op8 => [0xA6#8, op8]
  | .ldxZpy op8 => [0xB6#8, op8]
  | .ldxAbs op16 => [0xAE#8, loByte op16, hiByte op16]
  | .ldxAbsy op16 => [0xBE#8, loByte op16, hiByte op16]
  | .ldyImm op8 => [0xA0#8, op8]
  | .ldyZp op8 => [0xA4#8, op8]
  | .ldyZpx op8 => [0xB4#8, op8]
  | .ldyAbs op16 => [0xAC#8, loByte op16, hiByte op16]
  | .ldyAbsx op16 => [0xBC#8, loByte op16, hiByte op16]
  | .staZp op8 => [0x85#8, op8]
  | .staZpx op8 => [0x95#8, op8]
  | .staAbs op16 => [0x8D#8, loByte op16, hiByte op16]
  | .staAbsx op16 => [0x9D#8, loByte op16, hiByte op16]
  | .staAbsy op16 => [0x99#8, loByte op16, hiByte op16]
  | .staIndx op8 => [0x81#8, op8]
  | .staIndy op8 => [0x91#8, op8]
  | .stxZp op8 => [0x86#8, op8]
  | .stxZpy op8 => [0x96#8, op8]
  | .stxAbs op16 => [0x8E#8, loByte op16, hiByte op16]
  | .styZp op8 => [0x84#8, op8]
  | .styZpx op8 => [0x94#8, op8]
  | .styAbs op16 => [0x8C#8, loByte op16, hiByte op16]
  | .tax => [0xAA#8]
  | .tay => [0xA8#8]
  | .txa => [0x8A#8]
  | .tya => [0x98#8]
  | .tsx => [0xBA#8]
  | .txs => [0x9A#8]
  | .adcImm op8 => [0x69#8, op8]
  | .adcZp op8 => [0x65#8, op8]
  | .adcZpx op8 => [0x75#8, op8]
  | .adcAbs op16 => [0x6D#8, loByte op16, hiByte op16]
  | .adcAbsx op16 => [0x7D#8, loByte op16, hiByte op16]
  | .adcAbsy op16 => [0x79#8, loByte op16, hiByte op16]
  | .adcIndx op8 => [0x61#8, op8]
  | .adcIndy op8 => [0x71#8, op8]
  | .sbcImm op8 => [0xE9#8, op8]
  | .sbcZp op8 => [0xE5#8, op8]
  | .sbcZpx op8 => [0xF5#8, op8]
  | .sbcAbs op16 => [0xED#8, loByte op16, hiByte op16]
  | .sbcAbsx op16 => [0xFD#8, loByte op16, hiByte op16]
  | .sbcAbsy op16 => [0xF9#8, loByte op16, hiByte op16]
  | .sbcIndx op8 => [0xE1#8, op8]
  | .sbcIndy op8 => [0xF1#8, op8]
  | .andImm op8 => [0x29#8, op8]
  | .andZp op8 => [0x25#8, op8]
  | .andZpx op8 => [0x35#8, op8]
  | .andAbs op16 => [0x2D#8, loByte op16, hiByte op16]
  | .andAbsx op16 => [0x3D#8, loByte op16, hiByte op16]
  | .andAbsy op16 => [0x39#8, loByte op16, hiByte op16]
  | .andIndx op8 => [0x21#8, op8]
  | .andIndy op8 => [0x31#8, op8]
  | .oraImm op8 => [0x09#8, op8]
  | .oraZp op8 => [0x05#8, op8]
  | .oraZpx op8 => [0x15#8, op8]
  | .oraAbs op16 => [0x0D#8, loByte op16, hiByte op16]
  | .oraAbsx op16 => [0x1D#8, loByte op16, hiByte op16]
  | .oraAbsy op16 => [0x19#8, loByte op16, hiByte op16]
  | .oraIndx op8 => [0x01#8, op8]
  | .oraIndy op8 => [0x11#8, op8]
  | .eorImm op8 => [0x49#8, op8]
  | .eorZp op8 => [0x45#8, op8]
  | .eorZpx op8 => [0x55#8, op8]
  | .eorAbs op16 => [0x4D#8, loByte op16, hiByte op16]
  | .eorAbsx op16 => [0x5D#8, loByte op16, hiByte op16]
  | .eorAbsy op16 => [0x59#8, loByte op16, hiByte op16]
  | .eorIndx op8 => [0x41#8, op8]
  | .eorIndy op8 => [0x51#8, op8]
  | .cmpImm op8 => [0xC9#8, op8]
  | .cmpZp op8 => [0xC5#8, op8]
  | .cmpZpx op8 => [0xD5#8, op8]
  | .cmpAbs op16 => [0xCD#8, loByte op16, hiByte op16]
  | .cmpAbsx op16 => [0xDD#8, loByte op16, hiByte op16]
  | .cmpAbsy op16 => [0xD9#8, loByte op16, hiByte op16]
  | .cmpIndx op8 => [0xC1#8, op8]
  | .cmpIndy op8 => [0xD1#8, op8]
  | .cpxImm op8 => [0xE0#8, op8]
  | .cpxZp op8 => [0xE4#8, op8]
  | .cpxAbs op16 => [0xEC#8, loByte op16, hiByte op16]
  | .cpyImm op8 => [0xC0#8, op8]
  | .cpyZp op8 => [0xC4#8, op8]
  | .cpyAbs op16 => [0xCC#8, loByte op16, hiByte op16]
  | .bitZp op8 => [0x24#8, op8]
  | .bitAbs op16 => [0x2C#8, loByte op16, hiByte op16]
  | .aslAcc => [0x0A#8]
  | .aslZp op8 => [0x06#8, op8]
  | .aslZpx op8 => [0x16#8, op8]
  | .aslAbs op16 => [0x0E#8, loByte op16, hiByte op16]
  | .aslAbsx op16 => [0x1E#8, loByte op16, hiByte op16]
  | .lsrAcc => [0x4A#8]
  | .lsrZp op8 => [0x46#8, op8]
  | .lsrZpx op8 => [0x56#8, op8]
  | .lsrAbs op16 => [0x4E#8, loByte op16, hiByte op16]
  | .lsrAbsx op16 => [0x5E#8, loByte op16, hiByte op16]
  | .rolAcc => [0x2A#8]
  | .rolZp op8 => [0x26#8, op8]
  | .rolZpx op8 => [0x36#8, op8]
  | .rolAbs op16 => [0x2E#8, loByte op16, hiByte op16]
  | .rolAbsx op16 => [0x3E#8, loByte op16, hiByte op16]
  | .rorAcc => [0x6A#8]
  | .rorZp op8 => [0x66#8, op8]
  | .rorZpx op8 => [0x76#8, op8]
  | .rorAbs op16 => [0x6E#8, loByte op16, hiByte op16]
  | .rorAbsx op16 => [0x7E#8, loByte op16, hiByte op16]
  | .incZp op8 => [0xE6#8, op8]
  | .incZpx op8 => [0xF6#8, op8]
  | .incAbs op16 => [0xEE#8, loByte op16, hiByte op16]
  | .incAbsx op16 => [0xFE#8, loByte op16, hiByte op16]
  | .decZp op8 => [0xC6#8, op8]
  | .decZpx op8 => [0xD6#8, op8]
  | .decAbs op16 => [0xCE#8, loByte op16, hiByte op16]
  | .decAbsx op16 => [0xDE#8, loByte op16, hiByte op16]
  | .inx => [0xE8#8]
  | .iny => [0xC8#8]
  | .dex => [0xCA#8]
  | .dey => [0x88#8]
  | .jmpAbs op16 => [0x4C#8, loByte op16, hiByte op16]
  | .jmpInd op16 => [0x6C#8, loByte op16, hiByte op16]
  | .jsrAbs op16 => [0x20#8, loByte op16, hiByte op16]
  | .rts => [0x60#8]
  | .bccRel op8 => [0x90#8, op8]
  | .bcsRel op8 => [0xB0#8, op8]
  | .beqRel op8 => [0xF0#8, op8]
  | .bneRel op8 => [0xD0#8, op8]
  | .bmiRel op8 => [0x30#8, op8]
  | .bplRel op8 => [0x10#8, op8]
  | .bvcRel op8 => [0x50#8, op8]
  | .bvsRel op8 => [0x70#8, op8]
  | .pha => [0x48#8]
  | .php => [0x08#8]
  | .pla => [0x68#8]
  | .plp => [0x28#8]
  | .clc => [0x18#8]
  | .sec => [0x38#8]
  | .cli => [0x58#8]
  | .sei => [0x78#8]
  | .cld => [0xD8#8]
  | .sed => [0xF8#8]
  | .clv => [0xB8#8]
  | .nop => [0xEA#8]
  | .rti => [0x40#8]
  | .brk => [0x00#8]

end Sys2Proof
end

