-- ==== Sys2Proof/Machine/Fetch.lean ====
section
/-! DEFINITION. Fetching and decoding the instruction at PC (R85), and placing one there. -/

namespace Sys2Proof.Machine

/-- `Decode()` at `pc` (R85): the opcode byte, its row, then only the operand bytes its format has, each
read through `memRead` at ascending addresses modulo 2^16 (R27, R59, R82). The first fault met is the
one reported (R239). -/
def fetchAt (m : Memory) (pc : Word) : Except Fault Instr :=
  match memRead m pc with
  | .error e => .error e
  | .ok opc =>
    match lookup opc with
    | none => .error (.unimplementedOpcode opc pc)
    | some (.implied i) => .ok i
    | some (.withByte f) =>
      match memRead m (pc + 1#16) with
      | .error e => .error e
      | .ok b1 => .ok (f b1)
    | some (.withWord f) =>
      match memRead m (pc + 1#16) with
      | .error e => .error e
      | .ok b1 =>
        match memRead m (pc + 2#16) with
        | .error e => .error e
        | .ok b2 => .ok (f (mkWord b2 b1))

/-- PC as a successful decode leaves it: `pcn = pc0 +16 length` (R26). -/
def advance (s : State) (i : Instr) : State := s.setPc (s.pc + BitVec.ofNat 16 i.length)

/-- The three cells from an address on, where the longest instruction lies, all exist. -/
def fetchable (pc : Word) : Bool := mapped pc && mapped (pc + 1#16) && mapped (pc + 2#16)

/-- The bytes of a list put in the cells from an address on. -/
def pokeBytes (m : Memory) (addr : Word) : List Byte → Memory
  | [] => m
  | b :: bs => pokeBytes (poke m addr b) (addr + 1#16) bs

/-- The machine Running with the given bytes where its next fetch is: at PC, or, where PC leaves no room
for an instruction in mapped memory, at the address programs are loaded to. -/
def placeAtFetch (s : State) (bytes : List Byte) : State :=
  let pc := if fetchable s.pc then s.pc else Config.loadEntry
  ((s.setPc pc).setMem (pokeBytes s.mem pc bytes)).setRun .running

end Sys2Proof.Machine
end

