-- ==== Sys2Proof/Machine/Step.lean ====
section
/-! DEFINITION. The step (R265, R266): decode, which advances PC, then execute. -/

namespace Sys2Proof.Machine

/-- One step of the machine. While Running it is one instruction (R266): decode, PC moved past the
instruction (R26), execute, which resolves the operand first. A machine that is Ready or Halted stays as
it is until the host starts it (R250; notes/assumptions/2.md). -/
def step (s : State) : Host.Outcome State Fault Refusal :=
  match s.run with
  | .running =>
    match fetchAt s.mem s.pc with
    | .error e => raise e
    | .ok i => exec i (advance s i)
  | .ready => .next s
  | .halted _ => .next s

/-- The state with the instruction of a table word stored where the next step fetches, and Running
(notes/assumptions/3.md). -/
def State.withFetchWord (s : State) (nbits w : Nat) : State :=
  placeAtFetch s (tableBytes nbits w)

end Sys2Proof.Machine
end

