-- ==== Sys2Proof/Machine/HostPort.lean ====
section
/-! DEFINITION. What the host can do to the machine (R9, R261-R269, R276): Load, start, start_from, and the
run loop with its result. None of them is an instruction. -/

namespace Sys2Proof.Machine

/-- The run state is Running: the host's calls cannot arrive then (R269, R276). -/
def State.isRunning (s : State) : Bool := s.run == .running

/-- Reset (R261): A, X, Y, SP become zero and every flag false; memory is not changed, and PC is given by
start or start_from. -/
def resetRegisters (s : State) : State :=
  { State.powerOn s.mem with pc := s.pc, run := s.run }

/-- Load(bytes) (R262): the bytes are copied to 0x8000 upward, then the reset vector is written; no
register and no run state changes. More than 0x8000 bytes are refused. -/
def load (bytes : List Byte) (s : State) : StepResult :=
  if s.isRunning then .refused .calledWhileRunning
  else if Config.romSize < bytes.length then .refused (.loadTooLong bytes.length)
  else
    match memWrite16 (pokeBytes s.mem Config.loadEntry bytes) Config.resetVector Config.loadEntry with
    | .error e => raise e
    | .ok mem => .next (s.setMem mem)

/-- The first half of start_from (R264): registers reset, PC forced, Running. -/
def startAt (addr : Word) (s : State) : State := ((resetRegisters s).setPc addr).setRun .running

/-- start() up to the run loop (R263): registers reset, PC from the reset vector, Running. -/
def start (s : State) : StepResult :=
  if s.isRunning then .refused .calledWhileRunning
  else
    match memRead16 s.mem Config.resetVector with
    | .error e => raise e
    | .ok pc => .next (startAt pc s)

/-- start_from(address) up to the run loop (R264): any address; the vector is not read. -/
def startFrom (addr : Word) (s : State) : StepResult :=
  if s.isRunning then .refused .calledWhileRunning else .next (startAt addr s)

/-- The state a faulted run leaves for the host to read (R237): for an unimplemented opcode everything as
before the instruction, PC at its opcode byte; for an unimplemented operation only PC moved past it; after
an address-space violation none. -/
def afterFault (e : Fault) (s : State) : Option State :=
  match e with
  | .unimplementedOpcode _ _ => some (s.setRun (.halted (.error e)))
  | .unimplementedOperation op =>
    some ((s.setPc (s.pc + BitVec.ofNat 16 op.operand.format.length)).setRun (.halted (.error e)))
  | .addressSpaceViolation _ => none

/-- The run result (R9), or the machine still going when the fuel is spent (R268). -/
inductive RunResult where
  /-- The machine is not Running: its run state says why. -/
  | stopped (s : State)
  /-- The run ended in an error, with the state the host may read, if any. -/
  | faulted (e : Fault) (s : Option State)
  /-- A step was refused; no step is (Sys2Proof/Laws/Exec.lean). -/
  | refused (r : Refusal)
  /-- The fuel is spent and the machine is still Running. -/
  | unfinished (s : State)
  deriving DecidableEq, Repr

/-- The run loop (R265) under fuel (R268): steps while Running. -/
def runLoop : Nat → State → RunResult
  | 0, s => if s.isRunning then .unfinished s else .stopped s
  | fuel + 1, s =>
    if s.isRunning then
      match step s with
      | .next t => runLoop fuel t
      | .fault e => .faulted e (afterFault e s)
      | .refused r => .refused r
    else .stopped s

end Sys2Proof.Machine
end

