-- ==== Sys2Proof/Safety.lean ====
section
/-! DEFINITION. The terms claims are stated in: the invariant of every reachable state, a safe step, the
footprint of an instruction (the table of R41) and how an instruction is encoded (R86). -/

namespace Sys2Proof.Machine

/-- What holds of every state a run reaches: memory is in its canonical form, and B has kept its reset
value (R33). -/
structure State.Inv (s : State) : Prop where
  wf : Memory.wf s.mem
  breakClear : s.flags.b = false

/-- A step is safe when it ends in a next state: no fault and no refusal. -/
def SafeStep (s : State) : Prop := ∃ t, step s = .next t

/-- The flags, by name (R28). -/
inductive Flag where
  | c | z | i | d | b | v | n
  deriving DecidableEq, Repr

/-- The value of a flag. -/
def Flags.get (f : Flags) : Flag → Bool
  | .c => f.c
  | .z => f.z
  | .i => f.i
  | .d => f.d
  | .b => f.b
  | .v => f.v
  | .n => f.n

end Sys2Proof.Machine

namespace Sys2Proof

open Machine

/-- The column "flags written" of R41. -/
def Mnemonic.flagsWritten : Mnemonic → List Flag
  | .adc | .sbc => [.c, .z, .v, .n]
  | .and | .ora | .eor => [.z, .n]
  | .cmp | .cpx | .cpy => [.c, .z, .n]
  | .bit => [.z, .v, .n]
  | .asl | .lsr | .rol | .ror => [.c, .z, .n]
  | .inc | .dec | .inx | .dex | .iny | .dey => [.z, .n]
  | .lda | .ldx | .ldy | .tax | .tay | .txa | .tya | .tsx | .pla => [.z, .n]
  | .plp | .rti => [.c, .z, .i, .d, .v, .n]
  | .clc | .sec => [.c]
  | .cli | .sei => [.i]
  | .cld | .sed => [.d]
  | .clv => [.v]
  | .sta | .stx | .sty | .txs | .pha | .php | .jmp | .jsr | .rts | .bcc | .bcs | .beq | .bne | .bmi
  | .bpl | .bvc | .bvs | .nop | .brk => []

/-- The column "A" of R41 holds a w: the shifts write A only in format ACC. -/
def Operation.writesA (op : Operation) : Bool :=
  op.mnemonic ∈ [.adc, .sbc, .and, .ora, .eor, .lda, .txa, .tya, .pla]
    || (op.mnemonic ∈ [.asl, .lsr, .rol, .ror] && op.operand = .accumulator)

/-- The column "X" of R41 holds a w. -/
def Operation.writesX (op : Operation) : Bool := op.mnemonic ∈ [.inx, .dex, .ldx, .tax, .tsx]

/-- The column "Y" of R41 holds a w. -/
def Operation.writesY (op : Operation) : Bool := op.mnemonic ∈ [.iny, .dey, .ldy, .tay]

/-- The column "SP" of R41 holds a w. -/
def Operation.writesSp (op : Operation) : Bool :=
  op.mnemonic ∈ [.txs, .pha, .php, .pla, .plp, .jsr, .rts, .rti]

/-- The column "PC transfer" of R41 says always or if taken. -/
def Operation.transfersControl (op : Operation) : Bool :=
  op.mnemonic ∈ [.jmp, .jsr, .rts, .rti, .bcc, .bcs, .beq, .bne, .bmi, .bpl, .bvc, .bvs]

/-- The raw operand byte of an operand that has one (R83). -/
def Operand.rawByte : Operand → Option Byte
  | .value (.imm op8) => some op8
  | .value (.mem mode) | .location mode =>
    match mode with
    | .zp op8 | .zpx op8 | .zpy op8 | .rel op8 | .indx op8 | .indy op8 => some op8
    | .abs _ | .absx _ | .absy _ | .ind _ => none
  | .implied | .accumulator => none

/-- The raw operand Word of an operand that has one (R83). -/
def Operand.rawWord : Operand → Option Word
  | .value (.mem mode) | .location mode =>
    match mode with
    | .abs op16 | .absx op16 | .absy op16 | .ind op16 => some op16
    | .zp _ | .zpx _ | .zpy _ | .rel _ | .indx _ | .indy _ => none
  | .value (.imm _) | .implied | .accumulator => none

end Sys2Proof

namespace Sys2Proof.Machine

/-- The addresses an instruction stores to, computed as its meaning computes them: the effective address
of a store or a read-modify-write, the stack cells of a push (R62, R64, R133-R135, R170, R175, R176). -/
def storedAddrs (op : Operation) (s : State) : List Word :=
  if op.mnemonic ∈ [.sta, .stx, .sty, .asl, .lsr, .rol, .ror, .inc, .dec] then
    match op.operand with
    | .location mode =>
      match effectiveAddress mode s with
      | .ok ea => [ea]
      | .error _ => []
    | _ => []
  else if op.mnemonic = .pha ∨ op.mnemonic = .php then [stackAddr s.sp]
  else if op.mnemonic = .jsr then [stackAddr s.sp, stackAddr (s.sp - 1#8)]
  else []

/-- The 105 opcode bytes with no table entry, as R87 lists them. -/
def noEntryOpcodes : List Byte :=
  [0x02#8, 0x03#8, 0x04#8, 0x07#8, 0x0B#8, 0x0C#8, 0x0F#8, 0x12#8, 0x13#8, 0x14#8,
   0x17#8, 0x1A#8, 0x1B#8, 0x1C#8, 0x1F#8, 0x22#8, 0x23#8, 0x27#8, 0x2B#8, 0x2F#8,
   0x32#8, 0x33#8, 0x34#8, 0x37#8, 0x3A#8, 0x3B#8, 0x3C#8, 0x3F#8, 0x42#8, 0x43#8,
   0x44#8, 0x47#8, 0x4B#8, 0x4F#8, 0x52#8, 0x53#8, 0x54#8, 0x57#8, 0x5A#8, 0x5B#8,
   0x5C#8, 0x5F#8, 0x62#8, 0x63#8, 0x64#8, 0x67#8, 0x6B#8, 0x6F#8, 0x72#8, 0x73#8,
   0x74#8, 0x77#8, 0x7A#8, 0x7B#8, 0x7C#8, 0x7F#8, 0x80#8, 0x82#8, 0x83#8, 0x87#8,
   0x89#8, 0x8B#8, 0x8F#8, 0x92#8, 0x93#8, 0x97#8, 0x9B#8, 0x9C#8, 0x9E#8, 0x9F#8,
   0xA3#8, 0xA7#8, 0xAB#8, 0xAF#8, 0xB2#8, 0xB3#8, 0xB7#8, 0xBB#8, 0xBF#8, 0xC2#8,
   0xC3#8, 0xC7#8, 0xCB#8, 0xCF#8, 0xD2#8, 0xD3#8, 0xD4#8, 0xD7#8, 0xDA#8, 0xDB#8,
   0xDC#8, 0xDF#8, 0xE2#8, 0xE3#8, 0xE7#8, 0xEB#8, 0xEF#8, 0xF2#8, 0xF3#8, 0xF4#8,
   0xF7#8, 0xFA#8, 0xFB#8, 0xFC#8, 0xFF#8]

/-- A row of the table of R86: the mnemonic has exactly these opcode bytes, each in its format. -/
def EncodedAs (m : Mnemonic) (rows : List (Byte × Format)) : Prop :=
  (∀ row ∈ rows, ∀ b1 b2 : Byte, ∃ i rest,
    decode [row.1, b1, b2] = .ok (i, rest) ∧ i.mnemonic = m ∧ i.format = row.2) ∧
  ∀ i : Instr, i.mnemonic = m → ∃ row ∈ rows, i.format = row.2 ∧ (encode i).head? = some row.1

/-- The cell of the stack page at an offset, modulo 256 (R24, R61). -/
def stackCell (offset : Nat) : Word := BitVec.ofNat 16 (0x0100 + offset % 256)

/-- The flags with Z and N telling of the number of a Byte (R150): zero, and at least 128. -/
def Flags.zeroNegative (f : Flags) (v : Byte) : Flags :=
  { f with z := decide (v.toNat = 0), n := decide (128 ≤ v.toNat) }

/-- The shape of a rule for a Value mnemonic: in every form it has, where `resolve` (R102) gives a Byte `M`
it answers the next state `eff` gives, and where resolving its operand faults it answers that fault. -/
def ValueRule (m : Mnemonic) (eff : State → Byte → State) : Prop :=
  ∀ (i : Instr) (s : State), i.mnemonic = m → ∃ src, i.operand = .value src ∧
    (∀ v, resolve (.value src) s = .ok (.value v) → exec i s = .next (eff s v)) ∧
    (∀ e, resolve (.value src) s = .error e → exec i s = .fault e)

/-- The shape of a rule for a store: in every form it has, in every state, its `ea` is formed; with `ea`
mapped it writes the register's Byte at `ea` and changes nothing else, and otherwise it answers the fault
that names `ea`. -/
def StoreRule (m : Mnemonic) (reg : State → Byte) : Prop :=
  ∀ (i : Instr) (s : State), i.mnemonic = m → ∃ mode ea, i.operand = .location mode ∧
    effectiveAddress mode s = .ok ea ∧
    (mapped ea = true →
      ∃ mem, memWrite s.mem ea (reg s) = .ok mem ∧ exec i s = .next { s with mem := mem }) ∧
    (mapped ea = false → exec i s = .fault (.addressSpaceViolation ea))

/-- The shape of a rule for a read-modify-write of memory (R170): in every memory form it has, in every
state, its `ea` is formed; with `v` read at `ea` it writes `res s v` there, leaves the flags `fl s v` and
changes nothing else, and with `ea` unmapped it answers the fault that names `ea`. -/
def ModifyRule (m : Mnemonic) (res : State → Byte → Byte) (fl : State → Byte → Flags) : Prop :=
  ∀ (i : Instr) (s : State), i.mnemonic = m → i.format ≠ .acc → ∃ mode ea, i.operand = .location mode ∧
    effectiveAddress mode s = .ok ea ∧
    (∀ v, memRead s.mem ea = .ok v →
      ∃ mem, memWrite s.mem ea (res s v) = .ok mem ∧
        exec i s = .next { s with mem := mem, flags := fl s v }) ∧
    (mapped ea = false → exec i s = .fault (.addressSpaceViolation ea))

/-- The shape of a rule for a jump or branch: in every form it has, with `ea` resolved it answers the next
state `eff` gives, mapped or not, and where a pointer byte faults it answers that fault. -/
def GotoRule (m : Mnemonic) (eff : State → Word → State) : Prop :=
  ∀ (i : Instr) (s : State), i.mnemonic = m → ∃ mode, i.operand = .location mode ∧
    (∀ ea, effectiveAddress mode s = .ok ea → exec i s = .next (eff s ea)) ∧
    (∀ e, effectiveAddress mode s = .error e → exec i s = .fault e)

/-- The answer of a step with a function applied to its next state. -/
def mapNext (f : State → State) : StepResult → StepResult
  | .next s => .next (f s)
  | .fault e => .fault e
  | .refused r => .refused r

end Sys2Proof.Machine
end

