-- ==== Sys2Proof/Certificates/Slice0/Obligations.lean ====
section
/-! DEFINITION. The statements for the provers. Each docstring names the rules of spec/ the statement
formalises; the shapes `ValueRule`, `StoreRule`, `ModifyRule`, `GotoRule`, `EncodedAs` and the footprint of R41
are in Sys2Proof/Safety.lean. -/

open Sys2Proof Sys2Proof.Machine

/-! ### Encoding and decoding -/

/-- Decoding the encoding of any instruction, whatever follows, gives that instruction and what follows
(R83, R86): no bit of an operand is dropped. Derived: no rule says it in these words; the opcode values
are the spec's from general knowledge (R86). -/
def Obligations.DecodeOfEncodeIsIdentity : Prop :=
  ∀ (i : Instr) (rest : List Byte), decode (encode i ++ rest) = .ok (i, rest)

/-- The bytes a decode consumed are the encoding of the instruction it gave (R83, R86): no second word
decodes to an instruction. Derived: no rule says it in these words; the opcode values are the spec's
from general knowledge (R86). -/
def Obligations.EncodeOfDecodeIsIdentity : Prop :=
  ∀ (bs : List Byte) (i : Instr) (rest : List Byte), decode bs = .ok (i, rest) → encode i ++ rest = bs

/-- Words written out from R86, one per family and per operand shape, decode to their instructions, and
the table has 151 rows, no two with one opcode byte. Derived: the opcode values are the spec's from
general knowledge (R86), but for 0xA9 and 0x00. -/
def Obligations.SampleWordsDecodeAndRowsAreDistinct : Prop :=
  decode [0xA9#8, 0x05#8] = .ok (.ldaImm 0x05#8, []) ∧
  decode [0x00#8] = .ok (.brk, []) ∧
  decode [0x8D#8, 0x34#8, 0x12#8] = .ok (.staAbs 0x1234#16, []) ∧
  decode [0x96#8, 0x10#8] = .ok (.stxZpy 0x10#8, []) ∧
  decode [0xBA#8] = .ok (.tsx, []) ∧
  decode [0x71#8, 0xFF#8] = .ok (.adcIndy 0xFF#8, []) ∧
  decode [0xE1#8, 0x20#8] = .ok (.sbcIndx 0x20#8, []) ∧
  decode [0x2C#8, 0x00#8, 0x02#8] = .ok (.bitAbs 0x0200#16, []) ∧
  decode [0x6A#8] = .ok (.rorAcc, []) ∧
  decode [0xFE#8, 0xFF#8, 0x07#8] = .ok (.incAbsx 0x07FF#16, []) ∧
  decode [0x6C#8, 0xFF#8, 0x02#8] = .ok (.jmpInd 0x02FF#16, []) ∧
  decode [0x70#8, 0x80#8] = .ok (.bvsRel 0x80#8, []) ∧
  decode [0xB9#8, 0xFF#8, 0xFF#8] = .ok (.ldaAbsy 0xFFFF#16, []) ∧
  decode [0x40#8] = .ok (.rti, []) ∧
  opcodeTable.length = 151 ∧ (opcodeTable.map (·.1)).Nodup

/-- R87: exactly the 105 listed opcode bytes end the run with `UnimplementedOpcode(opc, pc0)`. Derived:
the list "shares its general-knowledge status" with the table, and the PC carried is decision D13. -/
def Obligations.OpcodeBytesWithoutEntryEndTheRun : Prop :=
  noEntryOpcodes.length = 105 ∧ noEntryOpcodes.Nodup ∧
  ∀ (s : State) (opc : Byte), s.run = .running → memRead s.mem s.pc = .ok opc →
    (opc ∈ noEntryOpcodes ↔ step s = .fault (.unimplementedOpcode opc s.pc))

/-- R80-R82: an instruction is 1, 2 or 3 bytes; the opcode byte alone fixes mnemonic, format and length,
and the decode consumes exactly that many bytes. R83, R59: a one-byte operand is the byte after the
opcode, a two-byte operand has its low byte first. R82, R87: for each of the 105 opcodes with no row no
operand byte is looked at. Derived: that an operand is low byte first in the instruction stream (R59,
R83) and the list of opcodes without a row (R87, by R86) are the spec's from general knowledge. -/
def Obligations.OpcodeFixesLengthAndOperandIsLowByteFirst : Prop :=
  (∀ (opc b1 b2 : Byte) (tail : List Byte) (i : Instr) (rest : List Byte),
    decode (opc :: b1 :: b2 :: tail) = .ok (i, rest) →
    rest = (opc :: b1 :: b2 :: tail).drop i.length ∧
    (i.length = 1 ∨ i.length = 2 ∨ i.length = 3) ∧
    (i.length = 2 → i.operand.rawByte = some b1) ∧
    (i.length = 3 → i.operand.rawWord = some (BitVec.ofNat 16 (b2.toNat * 256 + b1.toNat))) ∧
    ∀ (c1 c2 : Byte) (tail' : List Byte), ∃ j rest', decode (opc :: c1 :: c2 :: tail') = .ok (j, rest') ∧
      j.mnemonic = i.mnemonic ∧ j.format = i.format ∧ j.length = i.length) ∧
  ∀ opc ∈ noEntryOpcodes, ∀ tail : List Byte,
    decode (opc :: tail) = .error (.unimplementedOpcode opc)

/-! ### The step -/

/-- R266, R26: where the bytes from PC on decode to an instruction, the step of a running machine is the
executor on it, PC moved past it modulo 2^16. Derived: that PC has moved before the executor runs is the
spec's own derivation (R26), the wrap decision D9. -/
def Obligations.StepRunsTheDecodedInstruction : Prop :=
  ∀ (s : State) (bs : List Byte) (i : Instr) (rest : List Byte),
    s.run = .running → decode bs = .ok (i, rest) →
    (∀ k < i.length, memRead s.mem (s.pc + BitVec.ofNat 16 k) = .ok (bs.getD k 0x00#8)) →
    step s = exec i { s with pc := s.pc + BitVec.ofNat 16 i.length }

/-- R239 (1) and (3), R71: a fetch that meets an unmapped address faults on it, the opcode before the
operand bytes, the first operand byte before the second; no other byte is needed. Derived: the order
(R71, R239) is decision D21. -/
def Obligations.FetchFaultsInOrder : Prop :=
  ∀ s : State, s.run = .running →
    (mapped s.pc = false → step s = .fault (.addressSpaceViolation s.pc)) ∧
    ∀ i : Instr, memRead s.mem s.pc = .ok ((encode i).headD 0x00#8) →
      (2 ≤ i.length → mapped (s.pc + 1#16) = false →
        step s = .fault (.addressSpaceViolation (s.pc + 1#16))) ∧
      (i.length = 3 → mapped (s.pc + 1#16) = true → mapped (s.pc + 2#16) = false →
        step s = .fault (.addressSpaceViolation (s.pc + 2#16)))

/-- R250, and the model's choice of assumption 2: a machine that is Ready or Halted stays as it is.
Derived: the form is the model's choice, log entry 2. -/
def Obligations.StoppedMachineStaysAsItIs : Prop :=
  ∀ s : State, s.run ≠ .running → step s = .next s

/-- R223, R236, R265: a running machine's step leads to Halted(Break) when the opcode byte is 0x00, and
otherwise, if it leads to a next state at all, the machine is still Running. Derived: the details of BRK
(R223, R236) are decision D12. -/
def Obligations.OnlyBreakHaltsARunningMachine : Prop :=
  ∀ s t : State, s.run = .running → step s = .next t →
    (memRead s.mem s.pc = .ok 0x00#8 ∧ t.run = .halted .brk) ∨
    (memRead s.mem s.pc ≠ .ok 0x00#8 ∧ t.run = .running)

/-- R233: every decoded Operation has its executor rule, so no step raises `UnimplementedOperation`, and
none is refused. Derived: that every mnemonic has a rule (R233) is decision D11. -/
def Obligations.NoStepIsUnimplementedOrRefused : Prop :=
  (∀ (s : State) (op : Operation), step s ≠ .fault (.unimplementedOperation op)) ∧
  ∀ (s : State) (r : Refusal), step s ≠ .refused r

/-- R234: an address-space violation names an address in 0x0800-0x7FFF, and only a running machine
raises it. Derived: the form of the fault (R52, R234) is decision D5. -/
def Obligations.ViolationNamesAnUnmappedAddress : Prop :=
  ∀ (s : State) (addr : Word), step s = .fault (.addressSpaceViolation addr) →
    s.run = .running ∧ 0x0800 ≤ addr.toNat ∧ addr.toNat ≤ 0x7FFF

/-! ### Memory -/

/-- R53: a write of a mapped address changes that one cell and nothing else; a write of an unmapped
address raises the violation on it, and no memory results. Stated: R53. -/
def Obligations.WriteChangesOneCell : Prop :=
  ∀ (m : Memory) (addr : Word) (v : Byte), Memory.wf m →
    (addr.toNat ≤ 0x07FF ∨ 0x8000 ≤ addr.toNat →
      ∃ m', memWrite m addr v = .ok m' ∧ memRead m' addr = .ok v ∧
        ∀ b, b ≠ addr → memRead m' b = memRead m b) ∧
    (0x0800 ≤ addr.toNat ∧ addr.toNat ≤ 0x7FFF →
      memWrite m addr v = .error (.addressSpaceViolation addr))

/-- R57: a Word write is the write of its low byte and then of its high byte one address on, and a Word
just written reads back, wherever both addresses are mapped. Stated: R57. -/
def Obligations.WordJustWrittenReadsBack : Prop :=
  ∀ (m : Memory) (addr w : Word), Memory.wf m →
    mapped addr = true → mapped (addr + 1#16) = true →
    ∃ m1 m2, memWrite m addr (BitVec.ofNat 8 (w.toNat % 256)) = .ok m1 ∧
      memWrite m1 (addr + 1#16) (BitVec.ofNat 8 (w.toNat / 256)) = .ok m2 ∧
      memWrite16 m addr w = .ok m2 ∧ memRead16 m2 addr = .ok w

/-- R52, R56, R58: a read of a mapped address gives a Byte, written before or not (R73), and a read of
an unmapped one the violation; a Word is read low byte at `addr`, high byte at `addr +16 1`, modulo 2^16
and with no wrap inside a page; of a Word read or write the first unmapped byte, low before high, is the
one the fault names. Derived: decisions D5 (R52), D16 (R73), D7 and D8 (R58) and D21 (R56). -/
def Obligations.WordAccessIsTwoByteAccesses : Prop :=
  ∀ (m : Memory) (addr w : Word),
    (mapped addr = true → ∃ u, memRead m addr = .ok u) ∧
    (mapped addr = false → memRead m addr = .error (.addressSpaceViolation addr)) ∧
    (mapped addr = true → mapped (addr + 1#16) = true →
      ∃ lo hi, memRead m addr = .ok lo ∧ memRead m (addr + 1#16) = .ok hi ∧
        memRead16 m addr = .ok (BitVec.ofNat 16 (hi.toNat * 256 + lo.toNat))) ∧
    (mapped addr = false →
      memRead16 m addr = .error (.addressSpaceViolation addr) ∧
      memWrite16 m addr w = .error (.addressSpaceViolation addr)) ∧
    (mapped addr = true → mapped (addr + 1#16) = false →
      memRead16 m addr = .error (.addressSpaceViolation (addr + 1#16)) ∧
      memWrite16 m addr w = .error (.addressSpaceViolation (addr + 1#16)))

/-- R62, R63: a push writes at `0x0100 + SP` and then decrements SP modulo 256; a pull increments SP and
then reads; a pull after a push gives the Byte back and restores SP, for every SP. Derived: R62 and R63
are decision D15. -/
def Obligations.PushThenPullGivesTheByteBack : Prop :=
  (∀ (s : State) (v : Byte), Memory.wf s.mem →
    push v s = { s with sp := BitVec.ofNat 8 (s.sp.toNat + 255), mem := (push v s).mem } ∧
    memRead (push v s).mem (stackCell s.sp.toNat) = .ok v ∧
    (∀ b, b ≠ stackCell s.sp.toNat → memRead (push v s).mem b = memRead s.mem b) ∧
    pulledByte (push v s) = v ∧
    pulled (push v s) = { s with mem := (push v s).mem }) ∧
  ∀ s : State, memRead s.mem (stackCell (s.sp.toNat + 1)) = .ok (pulledByte s) ∧
    pulled s = { s with sp := BitVec.ofNat 8 (s.sp.toNat + 1) }

/-- R64: a Word is pushed high byte first, so its low byte lies one cell down the stack page, modulo
256; pulling a Word just pushed gives it back and restores SP, for every SP. Derived: R64 is decision
D15. -/
def Obligations.PushedWordComesBack : Prop :=
  ∀ (s : State) (w : Word), Memory.wf s.mem →
    memRead (push16 w s).mem (stackCell s.sp.toNat) = .ok (BitVec.ofNat 8 (w.toNat / 256)) ∧
    memRead (push16 w s).mem (stackCell (s.sp.toNat + 255)) = .ok (BitVec.ofNat 8 (w.toNat % 256)) ∧
    (∀ b, b ≠ stackCell s.sp.toNat → b ≠ stackCell (s.sp.toNat + 255) →
      memRead (push16 w s).mem b = memRead s.mem b) ∧
    (push16 w s).sp = BitVec.ofNat 8 (s.sp.toNat + 254) ∧
    pulledWord (push16 w s) = w ∧
    pulled16 (push16 w s) = { s with mem := (push16 w s).mem }

/-- Two memories in canonical form that read alike at every address are equal data. Derived: the
canonical form is the model's own way to hold the cells of R50. -/
def Obligations.MemoriesThatReadAlikeAreEqual : Prop :=
  ∀ m m' : Memory, Memory.wf m → Memory.wf m' → (∀ addr, memRead m addr = memRead m' addr) → m = m'

/-! ### The invariant -/

/-- Every step keeps the invariant: memory stays in its canonical form, and B stays clear (R33).
Derived: that B stays false (R33) is decision D3; the canonical form is the model's own. -/
def Obligations.StepKeepsTheInvariant : Prop :=
  ∀ s t : State, s.Inv → step s = .next t → t.Inv

/-- The invariant holds right after reset, and at power-on with any memory in canonical form; and
`State.reset` is start on a machine nothing was loaded into, whose memory is the model's choice of
assumption 1. Derived: the memory of `State.reset` is the model's choice, log entry 1. -/
def Obligations.ResetMeetsTheInvariant : Prop :=
  State.reset.Inv ∧ start (State.powerOn []) = .next State.reset ∧
  ∀ initMem : Memory, Memory.wf initMem → (State.powerOn initMem).Inv

/-- The host's Load, start and start_from keep the invariant. Derived: no rule says it in these words.
-/
def Obligations.HostCallsKeepTheInvariant : Prop :=
  ∀ s t : State, s.Inv →
    (∀ bytes, load bytes s = .next t → t.Inv) ∧ (start s = .next t → t.Inv) ∧
    (∀ addr, startFrom addr s = .next t → t.Inv)

/-! ### The resolver -/

/-- R105-R111 and, for the value of PC in REL, R26: the closed formulas of the seven modes that read no
pointer, in numbers: the zero-page sums modulo 256, the absolute sums and the branch target modulo
65536. Derived: that REL adds to the PC after decode is the spec's own derivation (R111: "[derived: the
use of the advanced PC follows from `10_state.md` rule R26]"); the other modes are R105 to R110, ZPY
being R107. -/
def Obligations.DirectModesFormTheirAddress : Prop :=
  ∀ (s : State) (op8 : Byte) (op16 : Word),
    effectiveAddress (.zp op8) s = .ok (BitVec.ofNat 16 op8.toNat) ∧
    effectiveAddress (.zpx op8) s = .ok (BitVec.ofNat 16 ((op8.toNat + s.x.toNat) % 256)) ∧
    effectiveAddress (.zpy op8) s = .ok (BitVec.ofNat 16 ((op8.toNat + s.y.toNat) % 256)) ∧
    (∀ n < 256, mapped (BitVec.ofNat 16 n) = true) ∧
    effectiveAddress (.abs op16) s = .ok op16 ∧
    effectiveAddress (.absx op16) s = .ok (BitVec.ofNat 16 ((op16.toNat + s.x.toNat) % 65536)) ∧
    effectiveAddress (.absy op16) s = .ok (BitVec.ofNat 16 ((op16.toNat + s.y.toNat) % 65536)) ∧
    effectiveAddress (.rel op8) s = .ok (BitVec.ofInt 16 (s.pc.toNat + op8.toInt))

/-- R112-R114: the three pointer modes read a Word, low byte first, at the pointer's address and the
next address (no wrap inside a page); INDY adds Y modulo 65536; an unmapped pointer byte faults, low
before high. Derived: that the high byte lies at the next address (R112-R114) is decision D8. -/
def Obligations.PointerModesReadTheirPointer : Prop :=
  ∀ (s : State) (op8 : Byte) (op16 : Word) (mode : AddrMode) (p : Word) (index : Nat),
    (mode = .ind op16 ∧ p = op16 ∧ index = 0) ∨
    (mode = .indx op8 ∧ p = BitVec.ofNat 16 ((op8.toNat + s.x.toNat) % 256) ∧ index = 0) ∨
    (mode = .indy op8 ∧ p = BitVec.ofNat 16 op8.toNat ∧ index = s.y.toNat) →
    (∀ lo hi, memRead s.mem p = .ok lo → memRead s.mem (p + 1#16) = .ok hi →
      effectiveAddress mode s =
        .ok (BitVec.ofNat 16 ((hi.toNat * 256 + lo.toNat + index) % 65536))) ∧
    (∀ e, memRead s.mem p = .error e → effectiveAddress mode s = .error e) ∧
    (∀ lo e, memRead s.mem p = .ok lo → memRead s.mem (p + 1#16) = .error e →
      effectiveAddress mode s = .error e)

/-- R102: what Resolve returns for each operand: nothing, the immediate Byte, the Byte at `ea`, or `ea`
itself with no read of its byte. Stated: R102. -/
def Obligations.ResolveReturnsValueOrLocation : Prop :=
  ∀ s : State,
    resolve .implied s = .ok .nothing ∧ resolve .accumulator s = .ok .nothing ∧
    (∀ op8, resolve (.value (.imm op8)) s = .ok (.value op8)) ∧
    (∀ mode ea, effectiveAddress mode s = .ok ea →
      resolve (.location mode) s = .ok (.location ea) ∧
      (∀ m, memRead s.mem ea = .ok m → resolve (.value (.mem mode)) s = .ok (.value m)) ∧
      (∀ e, memRead s.mem ea = .error e → resolve (.value (.mem mode)) s = .error e)) ∧
    ∀ mode e, effectiveAddress mode s = .error e →
      resolve (.location mode) s = .error e ∧ resolve (.value (.mem mode)) s = .error e

/-- R234, R61, R118: an instruction of a format that reaches only the zero page, the stack or no memory
at all completes in every state, and so do JMP and JSR with an absolute target. Derived: from R61, R234
and R118. -/
def Obligations.ZeroPageStackAndRegisterFormsComplete : Prop :=
  ∀ (i : Instr) (s : State),
    i.format ∈ [Format.imp, .acc, .imm, .zp, .zpx, .zpy, .rel] ∨
      ((i.mnemonic = .jmp ∨ i.mnemonic = .jsr) ∧ i.format = .abs) →
    ∃ t, exec i s = .next t

/-! ### Loads, stores and transfers -/

/-- R130, R131, R132. Derived: R130-R132 carry the spec's mark "from general knowledge". -/
def Obligations.LoadsWriteTheirRegister : Prop :=
  EncodedAs .lda [(0xA9#8, .imm), (0xA5#8, .zp), (0xB5#8, .zpx), (0xAD#8, .abs),
    (0xBD#8, .absx), (0xB9#8, .absy), (0xA1#8, .indx), (0xB1#8, .indy)] ∧
  EncodedAs .ldx [(0xA2#8, .imm), (0xA6#8, .zp), (0xB6#8, .zpy), (0xAE#8, .abs),
    (0xBE#8, .absy)] ∧
  EncodedAs .ldy [(0xA0#8, .imm), (0xA4#8, .zp), (0xB4#8, .zpx), (0xAC#8, .abs),
    (0xBC#8, .absx)] ∧
  ValueRule .lda (fun s m => { s with a := m, flags := s.flags.zeroNegative m }) ∧
  ValueRule .ldx (fun s m => { s with x := m, flags := s.flags.zeroNegative m }) ∧
  ValueRule .ldy (fun s m => { s with y := m, flags := s.flags.zeroNegative m })

/-- R133, R134, R135, and R54: the region "Program ROM" is written like RAM, since `mapped` is all a
store asks. Derived: R133-R135 carry the spec's mark "from general knowledge", R54 decision D6. -/
def Obligations.StoresWriteTheirRegister : Prop :=
  EncodedAs .sta [(0x85#8, .zp), (0x95#8, .zpx), (0x8D#8, .abs), (0x9D#8, .absx),
    (0x99#8, .absy), (0x81#8, .indx), (0x91#8, .indy)] ∧
  EncodedAs .stx [(0x86#8, .zp), (0x96#8, .zpy), (0x8E#8, .abs)] ∧
  EncodedAs .sty [(0x84#8, .zp), (0x94#8, .zpx), (0x8C#8, .abs)] ∧
  StoreRule .sta (·.a) ∧ StoreRule .stx (·.x) ∧ StoreRule .sty (·.y)

/-- R136-R141: TXS alone leaves the flags. Derived: R136-R141 carry the spec's mark "from general
knowledge". -/
def Obligations.TransfersCopyARegister : Prop :=
  EncodedAs .tax [(0xAA#8, .imp)] ∧ EncodedAs .tay [(0xA8#8, .imp)] ∧ EncodedAs .txa [(0x8A#8, .imp)] ∧
  EncodedAs .tya [(0x98#8, .imp)] ∧ EncodedAs .tsx [(0xBA#8, .imp)] ∧ EncodedAs .txs [(0x9A#8, .imp)] ∧
  ∀ s : State,
    exec .tax s = .next { s with x := s.a, flags := s.flags.zeroNegative s.a } ∧
    exec .tay s = .next { s with y := s.a, flags := s.flags.zeroNegative s.a } ∧
    exec .txa s = .next { s with a := s.x, flags := s.flags.zeroNegative s.x } ∧
    exec .tya s = .next { s with a := s.y, flags := s.flags.zeroNegative s.y } ∧
    exec .tsx s = .next { s with x := s.sp, flags := s.flags.zeroNegative s.sp } ∧
    exec .txs s = .next { s with sp := s.x }

/-! ### Arithmetic, logic, compare, bit test -/

/-- R152 and the overflow law R161: the sum with the carry modulo 256, C when it exceeds 255, V by the
bit formula, which says that the signed sum lies outside -128..127; D plays no part. Derived: N in R152
is decision D10, and the signed reading of V in R161 the spec's own derivation. -/
def Obligations.AdcAddsWithCarry : Prop :=
  EncodedAs .adc [(0x69#8, .imm), (0x65#8, .zp), (0x75#8, .zpx), (0x6D#8, .abs),
    (0x7D#8, .absx), (0x79#8, .absy), (0x61#8, .indx), (0x71#8, .indy)] ∧
  ValueRule .adc (fun s m =>
    let sum := s.a.toNat + m.toNat + s.flags.c.toNat
    let res : Byte := BitVec.ofNat 8 (sum % 256)
    { s with
      a := res
      flags := { s.flags with
        c := decide (255 < sum)
        v := decide ((s.a ^^^ res) &&& (m ^^^ res) &&& 0x80#8 ≠ 0x00#8)
        z := decide (sum % 256 = 0)
        n := decide (128 ≤ sum % 256) } }) ∧
  ∀ (a m : Byte) (c : Bool),
    let res : Byte := BitVec.ofNat 8 ((a.toNat + m.toNat + c.toNat) % 256)
    let signed : Int := a.toInt + m.toInt + c.toNat
    ((a ^^^ res) &&& (m ^^^ res) &&& 0x80#8 ≠ 0x00#8 ↔ signed < -128 ∨ 127 < signed)

/-- R153: the difference with borrow modulo 256, C when there is no borrow, V by the bit formula, which
says that the signed difference lies outside -128..127; D plays no part. Derived: R153 carries the
spec's mark "from general knowledge". -/
def Obligations.SbcSubtractsWithBorrow : Prop :=
  EncodedAs .sbc [(0xE9#8, .imm), (0xE5#8, .zp), (0xF5#8, .zpx), (0xED#8, .abs),
    (0xFD#8, .absx), (0xF9#8, .absy), (0xE1#8, .indx), (0xF1#8, .indy)] ∧
  ValueRule .sbc (fun s m =>
    let diff : Int := s.a.toNat - m.toNat - (1 - s.flags.c.toNat)
    let res : Byte := BitVec.ofInt 8 diff
    { s with
      a := res
      flags := { s.flags with
        c := decide (0 ≤ diff)
        v := decide ((s.a ^^^ m) &&& (s.a ^^^ res) &&& 0x80#8 ≠ 0x00#8)
        z := decide (diff % 256 = 0)
        n := decide (128 ≤ diff % 256) } }) ∧
  ∀ (a m : Byte) (c : Bool),
    let res : Byte := BitVec.ofInt 8 (a.toNat - m.toNat - (1 - c.toNat))
    let signed : Int := a.toInt - m.toInt - (1 - c.toNat)
    ((a ^^^ m) &&& (a ^^^ res) &&& 0x80#8 ≠ 0x00#8 ↔ signed < -128 ∨ 127 < signed)

/-- R154, R155, R156. Derived: R155 and R156 carry the spec's mark "from general knowledge", N in R154
decision D10. -/
def Obligations.LogicCombinesWithA : Prop :=
  EncodedAs .and [(0x29#8, .imm), (0x25#8, .zp), (0x35#8, .zpx), (0x2D#8, .abs),
    (0x3D#8, .absx), (0x39#8, .absy), (0x21#8, .indx), (0x31#8, .indy)] ∧
  EncodedAs .ora [(0x09#8, .imm), (0x05#8, .zp), (0x15#8, .zpx), (0x0D#8, .abs),
    (0x1D#8, .absx), (0x19#8, .absy), (0x01#8, .indx), (0x11#8, .indy)] ∧
  EncodedAs .eor [(0x49#8, .imm), (0x45#8, .zp), (0x55#8, .zpx), (0x4D#8, .abs),
    (0x5D#8, .absx), (0x59#8, .absy), (0x41#8, .indx), (0x51#8, .indy)] ∧
  ValueRule .and (fun s m => { s with a := s.a &&& m, flags := s.flags.zeroNegative (s.a &&& m) }) ∧
  ValueRule .ora (fun s m => { s with a := s.a ||| m, flags := s.flags.zeroNegative (s.a ||| m) }) ∧
  ValueRule .eor (fun s m => { s with a := s.a ^^^ m, flags := s.flags.zeroNegative (s.a ^^^ m) })

/-- R157, R158, R159: C from the unsigned comparison, Z from equality, N from bit 7 of the difference;
no register is written and the carry before is not used. Derived: R157-R159 carry the spec's mark "from
general knowledge". -/
def Obligations.ComparesSetCarryZeroNegative : Prop :=
  EncodedAs .cmp [(0xC9#8, .imm), (0xC5#8, .zp), (0xD5#8, .zpx), (0xCD#8, .abs),
    (0xDD#8, .absx), (0xD9#8, .absy), (0xC1#8, .indx), (0xD1#8, .indy)] ∧
  EncodedAs .cpx [(0xE0#8, .imm), (0xE4#8, .zp), (0xEC#8, .abs)] ∧
  EncodedAs .cpy [(0xC0#8, .imm), (0xC4#8, .zp), (0xCC#8, .abs)] ∧
  ∀ (mn : Mnemonic) (reg : State → Byte),
    (mn = .cmp ∧ reg = (·.a)) ∨ (mn = .cpx ∧ reg = (·.x)) ∨ (mn = .cpy ∧ reg = (·.y)) →
    ValueRule mn (fun s m =>
      { s with flags := { s.flags with
          c := decide (m.toNat ≤ (reg s).toNat)
          z := decide (reg s = m)
          n := decide (128 ≤ ((reg s).toNat + (256 - m.toNat)) % 256) } })

/-- R160: Z from `A & M`, N and V from bits 7 and 6 of `M` itself. Derived: R160 carries the spec's mark
"from general knowledge". -/
def Obligations.BitTestsTheOperand : Prop :=
  EncodedAs .bit [(0x24#8, .zp), (0x2C#8, .abs)] ∧
  ValueRule .bit (fun s m =>
    { s with flags := { s.flags with
        z := decide (s.a &&& m = 0x00#8)
        n := decide (128 ≤ m.toNat)
        v := decide (64 ≤ m.toNat % 128) } })

/-! ### Shifts, rotates, increments, decrements -/

/-- R170-R174, format ACC: the result goes to A, C is the bit shifted out, no memory is touched.
Derived: R171-R174 carry the spec's mark "from general knowledge". -/
def Obligations.AccumulatorShiftsWriteA : Prop :=
  ∀ s : State,
    (let r : Byte := BitVec.ofNat 8 (2 * s.a.toNat % 256)
     exec .aslAcc s = .next { s with a := r, flags :=
       ({ s.flags with c := decide (128 ≤ s.a.toNat) } : Flags).zeroNegative r }) ∧
    (let r : Byte := BitVec.ofNat 8 (s.a.toNat / 2)
     exec .lsrAcc s = .next { s with a := r, flags :=
       ({ s.flags with c := decide (s.a.toNat % 2 = 1) } : Flags).zeroNegative r }) ∧
    (let r : Byte := BitVec.ofNat 8 ((2 * s.a.toNat + s.flags.c.toNat) % 256)
     exec .rolAcc s = .next { s with a := r, flags :=
       ({ s.flags with c := decide (128 ≤ s.a.toNat) } : Flags).zeroNegative r }) ∧
    (let r : Byte := BitVec.ofNat 8 (s.a.toNat / 2 + 128 * s.flags.c.toNat)
     exec .rorAcc s = .next { s with a := r, flags :=
       ({ s.flags with c := decide (s.a.toNat % 2 = 1) } : Flags).zeroNegative r })

/-- R170-R174, the memory formats: one read and one write of `ea`; Z and N tell of the Byte stored.
Derived: R171-R174 carry the spec's mark "from general knowledge". -/
def Obligations.MemoryShiftsWriteTheirCell : Prop :=
  EncodedAs .asl [(0x0A#8, .acc), (0x06#8, .zp), (0x16#8, .zpx), (0x0E#8, .abs),
    (0x1E#8, .absx)] ∧
  EncodedAs .lsr [(0x4A#8, .acc), (0x46#8, .zp), (0x56#8, .zpx), (0x4E#8, .abs),
    (0x5E#8, .absx)] ∧
  EncodedAs .rol [(0x2A#8, .acc), (0x26#8, .zp), (0x36#8, .zpx), (0x2E#8, .abs),
    (0x3E#8, .absx)] ∧
  EncodedAs .ror [(0x6A#8, .acc), (0x66#8, .zp), (0x76#8, .zpx), (0x6E#8, .abs),
    (0x7E#8, .absx)] ∧
  ModifyRule .asl (fun _ v => BitVec.ofNat 8 (2 * v.toNat % 256)) (fun s v =>
    ({ s.flags with c := decide (128 ≤ v.toNat) } : Flags).zeroNegative
      (BitVec.ofNat 8 (2 * v.toNat % 256))) ∧
  ModifyRule .lsr (fun _ v => BitVec.ofNat 8 (v.toNat / 2)) (fun s v =>
    ({ s.flags with c := decide (v.toNat % 2 = 1) } : Flags).zeroNegative
      (BitVec.ofNat 8 (v.toNat / 2))) ∧
  ModifyRule .rol (fun s v => BitVec.ofNat 8 ((2 * v.toNat + s.flags.c.toNat) % 256)) (fun s v =>
    ({ s.flags with c := decide (128 ≤ v.toNat) } : Flags).zeroNegative
      (BitVec.ofNat 8 ((2 * v.toNat + s.flags.c.toNat) % 256))) ∧
  ModifyRule .ror (fun s v => BitVec.ofNat 8 (v.toNat / 2 + 128 * s.flags.c.toNat)) (fun s v =>
    ({ s.flags with c := decide (v.toNat % 2 = 1) } : Flags).zeroNegative
      (BitVec.ofNat 8 (v.toNat / 2 + 128 * s.flags.c.toNat)))

/-- R175, R176: modulo 256, C and V untouched. Derived: R175 and R176 carry the spec's mark "from
general knowledge". -/
def Obligations.IncDecModifyTheirCell : Prop :=
  EncodedAs .inc [(0xE6#8, .zp), (0xF6#8, .zpx), (0xEE#8, .abs), (0xFE#8, .absx)] ∧
  EncodedAs .dec [(0xC6#8, .zp), (0xD6#8, .zpx), (0xCE#8, .abs), (0xDE#8, .absx)] ∧
  ModifyRule .inc (fun _ v => BitVec.ofNat 8 ((v.toNat + 1) % 256)) (fun s v =>
    s.flags.zeroNegative (BitVec.ofNat 8 ((v.toNat + 1) % 256))) ∧
  ModifyRule .dec (fun _ v => BitVec.ofNat 8 ((v.toNat + 255) % 256)) (fun s v =>
    s.flags.zeroNegative (BitVec.ofNat 8 ((v.toNat + 255) % 256)))

/-- R177-R180: modulo 256, C and V untouched. Derived: R177-R180 carry the spec's mark "from general
knowledge". -/
def Obligations.IndexIncDecModifyTheirRegister : Prop :=
  EncodedAs .inx [(0xE8#8, .imp)] ∧ EncodedAs .iny [(0xC8#8, .imp)] ∧ EncodedAs .dex [(0xCA#8, .imp)] ∧
  EncodedAs .dey [(0x88#8, .imp)] ∧
  ∀ s : State,
    (let r : Byte := BitVec.ofNat 8 ((s.x.toNat + 1) % 256)
     exec .inx s = .next { s with x := r, flags := s.flags.zeroNegative r }) ∧
    (let r : Byte := BitVec.ofNat 8 ((s.y.toNat + 1) % 256)
     exec .iny s = .next { s with y := r, flags := s.flags.zeroNegative r }) ∧
    (let r : Byte := BitVec.ofNat 8 ((s.x.toNat + 255) % 256)
     exec .dex s = .next { s with x := r, flags := s.flags.zeroNegative r }) ∧
    (let r : Byte := BitVec.ofNat 8 ((s.y.toNat + 255) % 256)
     exec .dey s = .next { s with y := r, flags := s.flags.zeroNegative r })

/-! ### Jumps, subroutines, branches -/

/-- R190: PC takes the effective address, mapped or not, and nothing else changes. Derived: R190 carries
the spec's mark "from general knowledge". -/
def Obligations.JmpTakesTheEffectiveAddress : Prop :=
  EncodedAs .jmp [(0x4C#8, .abs), (0x6C#8, .ind)] ∧ GotoRule .jmp (fun s ea => { s with pc := ea })

/-- R192: JSR pushes the address of its own last byte, high byte first, and goes to its operand; in
every state it completes, and only PC, SP and the two stack cells change. Derived: R192 carries the
spec's mark "from general knowledge" and is decision D15. -/
def Obligations.JsrPushesItsLastByteAddress : Prop :=
  EncodedAs .jsr [(0x20#8, .abs)] ∧
  ∀ (s : State) (op16 : Word), Memory.wf s.mem →
    let ret := (s.pc.toNat + 65535) % 65536
    ∃ mem, exec (.jsrAbs op16) s =
        .next { s with pc := op16, sp := BitVec.ofNat 8 (s.sp.toNat + 254), mem := mem } ∧
      memRead mem (stackCell s.sp.toNat) = .ok (BitVec.ofNat 8 (ret / 256)) ∧
      memRead mem (stackCell (s.sp.toNat + 255)) = .ok (BitVec.ofNat 8 (ret % 256)) ∧
      ∀ b, b ≠ stackCell s.sp.toNat → b ≠ stackCell (s.sp.toNat + 255) →
        memRead mem b = memRead s.mem b

/-- R193: RTS pulls a Word, low byte first, and goes one past it; it completes in every state. Derived:
R193 carries the spec's mark "from general knowledge" and is decision D15. -/
def Obligations.RtsGoesOnePastThePulledWord : Prop :=
  EncodedAs .rts [(0x60#8, .imp)] ∧
  ∀ s : State, ∃ lo hi,
    memRead s.mem (stackCell (s.sp.toNat + 1)) = .ok lo ∧
    memRead s.mem (stackCell (s.sp.toNat + 2)) = .ok hi ∧
    exec .rts s = .next { s with
      pc := BitVec.ofNat 16 ((hi.toNat * 256 + lo.toNat + 1) % 65536)
      sp := BitVec.ofNat 8 (s.sp.toNat + 2) }

/-- R192, R193: an RTS with SP and memory as a JSR left them, whatever the other registers hold, returns
to the instruction after the JSR and restores SP, for every SP. Derived: from R192 and R193, which carry
the spec's mark "from general knowledge". -/
def Obligations.RtsReturnsAfterJsr : Prop :=
  ∀ (s : State) (op16 : Word), Memory.wf s.mem → ∃ t, exec (.jsrAbs op16) s = .next t ∧
    ∀ u : State, u.sp = t.sp → u.mem = t.mem →
      exec .rts u = .next { u with pc := s.pc, sp := s.sp }

/-- R191 and R194-R201: each branch goes to its target exactly when its flag has its value, and changes
nothing but PC. Derived: R191 and R194-R201 carry the spec's mark "from general knowledge". -/
def Obligations.BranchesTestOneFlag : Prop :=
  EncodedAs .bcc [(0x90#8, .rel)] ∧ EncodedAs .bcs [(0xB0#8, .rel)] ∧ EncodedAs .beq [(0xF0#8, .rel)] ∧
  EncodedAs .bne [(0xD0#8, .rel)] ∧ EncodedAs .bmi [(0x30#8, .rel)] ∧ EncodedAs .bpl [(0x10#8, .rel)] ∧
  EncodedAs .bvc [(0x50#8, .rel)] ∧ EncodedAs .bvs [(0x70#8, .rel)] ∧
  ∀ (s : State) (op8 : Byte),
    let target : Word := BitVec.ofInt 16 (s.pc.toNat + op8.toInt)
    let goto := fun taken : Bool => { s with pc := bif taken then target else s.pc }
    exec (.bccRel op8) s = .next (goto (decide (s.flags.c = false))) ∧
    exec (.bcsRel op8) s = .next (goto (decide (s.flags.c = true))) ∧
    exec (.beqRel op8) s = .next (goto (decide (s.flags.z = true))) ∧
    exec (.bneRel op8) s = .next (goto (decide (s.flags.z = false))) ∧
    exec (.bmiRel op8) s = .next (goto (decide (s.flags.n = true))) ∧
    exec (.bplRel op8) s = .next (goto (decide (s.flags.n = false))) ∧
    exec (.bvcRel op8) s = .next (goto (decide (s.flags.v = false))) ∧
    exec (.bvsRel op8) s = .next (goto (decide (s.flags.v = true)))

/-! ### Stack, flags, system -/

/-- R210, R211: PHA pushes A, PHP the status byte N V 1 1 D I Z C, whatever B holds; both complete in
every state and change only SP and the one stack cell. Derived: R210 is decision D15, R211 and R37 are
decisions D3 and D4. -/
def Obligations.PhaAndPhpPushOneByte : Prop :=
  EncodedAs .pha [(0x48#8, .imp)] ∧ EncodedAs .php [(0x08#8, .imp)] ∧
  ∀ (s : State) (i : Instr) (v : Byte), Memory.wf s.mem →
    (i = .pha ∧ v = s.a) ∨
    (i = .php ∧ v.toNat = s.flags.n.toNat * 128 + s.flags.v.toNat * 64 + 32 + 16 + s.flags.d.toNat * 8
      + s.flags.i.toNat * 4 + s.flags.z.toNat * 2 + s.flags.c.toNat) →
    ∃ mem, exec i s = .next { s with sp := BitVec.ofNat 8 (s.sp.toNat + 255), mem := mem } ∧
      memRead mem (stackCell s.sp.toNat) = .ok v ∧
      ∀ b, b ≠ stackCell s.sp.toNat → memRead mem b = memRead s.mem b

/-- R212, R213: PLA pulls A and sets Z and N; PLP pulls six flags from bits 7, 6, 3, 2, 1, 0 and leaves
B; both complete in every state. Derived: R212 is decision D15, R213 and R37 are decisions D3 and D4. -/
def Obligations.PlaAndPlpPullOneByte : Prop :=
  EncodedAs .pla [(0x68#8, .imp)] ∧ EncodedAs .plp [(0x28#8, .imp)] ∧
  ∀ s : State, ∃ v, memRead s.mem (stackCell (s.sp.toNat + 1)) = .ok v ∧
    exec .pla s = .next { s with
      sp := BitVec.ofNat 8 (s.sp.toNat + 1), a := v, flags := s.flags.zeroNegative v } ∧
    exec .plp s = .next { s with
      sp := BitVec.ofNat 8 (s.sp.toNat + 1)
      flags := { n := v.toNat.testBit 7, v := v.toNat.testBit 6, d := v.toNat.testBit 3,
                 i := v.toNat.testBit 2, z := v.toNat.testBit 1, c := v.toNat.testBit 0,
                 b := s.flags.b } }

/-- The corner case of R213: a PLP after a PHP restores the six flags and SP, whatever the flags became
in between, B keeping its value. Derived: from R211 and R213, decisions D3 and D4. -/
def Obligations.PlpRestoresWhatPhpPushed : Prop :=
  ∀ s : State, Memory.wf s.mem → ∃ t, exec .php s = .next t ∧
    ∀ f : Flags, exec .plp { t with flags := f } =
      .next { s with mem := t.mem, flags := { s.flags with b := f.b } }

/-- R214-R220: each writes one flag and nothing else; and R221: NOP changes nothing. Derived: R214-R221
carry the spec's mark "from general knowledge". -/
def Obligations.FlagInstructionsWriteOneFlag : Prop :=
  EncodedAs .clc [(0x18#8, .imp)] ∧ EncodedAs .sec [(0x38#8, .imp)] ∧ EncodedAs .cli [(0x58#8, .imp)] ∧
  EncodedAs .sei [(0x78#8, .imp)] ∧ EncodedAs .cld [(0xD8#8, .imp)] ∧ EncodedAs .sed [(0xF8#8, .imp)] ∧
  EncodedAs .clv [(0xB8#8, .imp)] ∧ EncodedAs .nop [(0xEA#8, .imp)] ∧
  ∀ s : State,
    exec .clc s = .next { s with flags := { s.flags with c := false } } ∧
    exec .sec s = .next { s with flags := { s.flags with c := true } } ∧
    exec .cli s = .next { s with flags := { s.flags with i := false } } ∧
    exec .sei s = .next { s with flags := { s.flags with i := true } } ∧
    exec .cld s = .next { s with flags := { s.flags with d := false } } ∧
    exec .sed s = .next { s with flags := { s.flags with d := true } } ∧
    exec .clv s = .next { s with flags := { s.flags with v := false } } ∧
    exec .nop s = .next s

/-- R222: RTI pulls the status, then PC low, then PC high, with no +1; it completes in every state and B
is unchanged. Derived: R222 carries the spec's mark "from general knowledge" and is decisions D3 and
D15. -/
def Obligations.RtiPullsStatusThenPc : Prop :=
  EncodedAs .rti [(0x40#8, .imp)] ∧
  ∀ s : State, ∃ p lo hi,
    memRead s.mem (stackCell (s.sp.toNat + 1)) = .ok p ∧
    memRead s.mem (stackCell (s.sp.toNat + 2)) = .ok lo ∧
    memRead s.mem (stackCell (s.sp.toNat + 3)) = .ok hi ∧
    exec .rti s = .next { s with
      pc := BitVec.ofNat 16 (hi.toNat * 256 + lo.toNat)
      sp := BitVec.ofNat 8 (s.sp.toNat + 3)
      flags := { n := p.toNat.testBit 7, v := p.toNat.testBit 6, d := p.toNat.testBit 3,
                 i := p.toNat.testBit 2, z := p.toNat.testBit 1, c := p.toNat.testBit 0,
                 b := s.flags.b } }

/-- R223: BRK is one byte; it sets the run state to Halted(Break) and does nothing else, so PC ends one
past it, nothing is pushed, no flag changes and no vector is read. Derived: the details of R223 are
decision D12. -/
def Obligations.BrkHaltsAndDoesNothingElse : Prop :=
  EncodedAs .brk [(0x00#8, .imp)] ∧
  (∀ s : State, exec .brk s = .next { s with run := .halted .brk }) ∧
  ∀ s : State, s.run = .running → memRead s.mem s.pc = .ok 0x00#8 →
    step s = .next { s with pc := s.pc + 1#16, run := .halted .brk }

/-! ### What an instruction leaves unchanged -/

/-- The columns A, X, Y, SP and PC of R41: a register an instruction does not write keeps its value, PC
keeps the value the decoder gave it, and the run state changes in BRK only. Derived: the table of R41
repeats the instruction rules and is marked as a derivation. -/
def Obligations.UnwrittenRegistersAreKept : Prop :=
  ∀ (i : Instr) (s t : State), exec i s = .next t →
    (i.operation.writesA = false → t.a = s.a) ∧
    (i.operation.writesX = false → t.x = s.x) ∧
    (i.operation.writesY = false → t.y = s.y) ∧
    (i.operation.writesSp = false → t.sp = s.sp) ∧
    (i.operation.transfersControl = false → t.pc = s.pc) ∧
    (i.mnemonic ≠ .brk → t.run = s.run)

/-- The column "flags written" of R41: every other flag keeps its value. Derived: the table of R41
repeats the instruction rules and is marked as a derivation. -/
def Obligations.UnwrittenFlagsAreKept : Prop :=
  ∀ (i : Instr) (s t : State), exec i s = .next t →
    ∀ f : Flag, f ∉ i.mnemonic.flagsWritten → t.flags.get f = s.flags.get f

/-- Every address but those an instruction stores to reads as before: the effective address of a store
or read-modify-write, the stack cells of a push; none for every other form. Derived: that no other
access is made (R72) is decision D22. -/
def Obligations.UnstoredMemoryIsKept : Prop :=
  ∀ (i : Instr) (s t : State), Memory.wf s.mem → exec i s = .next t →
    ∀ addr, addr ∉ storedAddrs i.operation s → memRead t.mem addr = memRead s.mem addr

/-! ### Flags that steer nothing -/

/-- R32, R162: D is only a stored bit. Changing it before an instruction that does not load, set, clear
or store it changes the outcome in D alone; before one that loads, sets or clears it, nothing. Derived:
that D is a stored bit (R32) is decision D2; that no ALU operation uses it is R162. -/
def Obligations.DecimalFlagSteersNothing : Prop :=
  ∀ (i : Instr) (s : State) (d : Bool),
    (i.mnemonic ∉ [Mnemonic.php, .plp, .rti, .cld, .sed] →
      exec i { s with flags := { s.flags with d := d } } =
        mapNext (fun t => { t with flags := { t.flags with d := d } }) (exec i s)) ∧
    (i.mnemonic ∈ [Mnemonic.plp, .rti, .cld, .sed] →
      exec i { s with flags := { s.flags with d := d } } = exec i s)

/-- R31: I is only a stored bit and masks nothing. Derived: R31 is decision D14. -/
def Obligations.InterruptFlagMasksNothing : Prop :=
  ∀ (i : Instr) (s : State) (v : Bool),
    (i.mnemonic ∉ [Mnemonic.php, .plp, .rti, .cli, .sei] →
      exec i { s with flags := { s.flags with i := v } } =
        mapNext (fun t => { t with flags := { t.flags with i := v } }) (exec i s)) ∧
    (i.mnemonic ∈ [Mnemonic.plp, .rti, .cli, .sei] →
      exec i { s with flags := { s.flags with i := v } } = exec i s)

/-- R33: no instruction reads B (changing it before an instruction changes the outcome in B alone) and
no step writes it, and it is false after reset. Derived: R33 is decision D3. -/
def Obligations.BreakFlagIsNeitherReadNorWritten : Prop :=
  (∀ (i : Instr) (s : State) (v : Bool),
    exec i { s with flags := { s.flags with b := v } } =
      mapNext (fun t => { t with flags := { t.flags with b := v } }) (exec i s)) ∧
  (∀ s t : State, step s = .next t → t.flags.b = s.flags.b) ∧ State.reset.flags.b = false

/-! ### The host's side -/

/-- R262: Load copies the bytes to 0x8000 upward, then writes 0x8000 to the reset vector, and changes
nothing else; more than 0x8000 bytes are refused. Derived: the refusal in R262 is decision D17. -/
def Obligations.LoadCopiesThenSetsTheVector : Prop :=
  ∀ (bytes : List Byte) (s : State), Memory.wf s.mem → s.run ≠ .running →
    (bytes.length ≤ 0x8000 → ∃ mem, load bytes s = .next { s with mem := mem } ∧
      memRead mem 0xFFFC#16 = .ok 0x00#8 ∧ memRead mem 0xFFFD#16 = .ok 0x80#8 ∧
      (∀ k < bytes.length, k ≠ 0x7FFC → k ≠ 0x7FFD →
        memRead mem (BitVec.ofNat 16 (0x8000 + k)) = .ok (bytes.getD k 0x00#8)) ∧
      ∀ addr : Word, addr ≠ 0xFFFC#16 → addr ≠ 0xFFFD#16 →
        addr.toNat < 0x8000 ∨ 0x8000 + bytes.length ≤ addr.toNat →
        memRead mem addr = memRead s.mem addr) ∧
    (0x8000 < bytes.length → load bytes s = .refused (.loadTooLong bytes.length))

/-- R261, R263, R264, R269: start and start_from, in Ready and in Halted, make A, X, Y, SP zero and
every flag false, leave memory, and set PC from the reset vector or to the given address; while Running
they and Load, of any bytes, are turned away. Derived: the values (R261) are decision D1, start in
Halted (R269) decision D27; that a call while Running is refused (R262, R269, R276: it cannot arrive) is
the model's form, log entry 5. -/
def Obligations.StartResetsTheRegisters : Prop :=
  ∀ (s : State) (addr : Word),
    (s.run ≠ .running →
      (∃ lo hi, memRead s.mem 0xFFFC#16 = .ok lo ∧ memRead s.mem 0xFFFD#16 = .ok hi ∧
        start s = .next { pc := BitVec.ofNat 16 (hi.toNat * 256 + lo.toNat), sp := 0x00#8, a := 0x00#8,
                          x := 0x00#8, y := 0x00#8, run := .running, mem := s.mem,
                          flags := { c := false, z := false, i := false, d := false, b := false,
                                     v := false, n := false } }) ∧
      startFrom addr s = .next { pc := addr, sp := 0x00#8, a := 0x00#8, x := 0x00#8, y := 0x00#8,
                                 run := .running, mem := s.mem,
                                 flags := { c := false, z := false, i := false, d := false, b := false,
                                            v := false, n := false } }) ∧
    (s.run = .running →
      start s = .refused .calledWhileRunning ∧ startFrom addr s = .refused .calledWhileRunning ∧
      ∀ bytes, load bytes s = .refused .calledWhileRunning)

/-- R260, for every initial memory: the values at construction. Stated: R260. -/
def Obligations.ConstructionValues : Prop :=
  ∀ initMem : Memory, State.powerOn initMem =
    { pc := 0x0000#16, sp := 0x00#8, a := 0x00#8, x := 0x00#8, y := 0x00#8, run := .ready, mem := initMem,
      flags := { c := false, z := false, i := false, d := false, b := false, v := false, n := false } }

/-- R265, R231: while Running the loop performs a step and goes on from where it led, with one less
fuel, or ends with the fault it raised and the state `afterFault` gives; otherwise it stops. Derived:
the fuel and how it is spent are the model's choice (log entry 5), and that an error ends the loop in an
outcome with `afterFault`, where R265 says the machine becomes Halted, is the model's form (log entry
4). -/
def Obligations.RunLoopStepsWhileRunning : Prop :=
  ∀ (fuel : Nat) (s : State),
    (s.run ≠ .running → runLoop fuel s = .stopped s) ∧
    (s.run = .running →
      (∀ t, step s = .next t → runLoop (fuel + 1) s = runLoop fuel t) ∧
      (∀ e, step s = .fault e → runLoop (fuel + 1) s = .faulted e (afterFault e s)))

/-- R237: what a faulted run leaves for the host to read. After an unimplemented opcode all is as before
the instruction, PC at its opcode byte, but for the run state; after an address-space violation there is
no state; the state of the never raised `UnimplementedOperation` has PC past the instruction. Derived:
R232 is decision D13, R233 decision D11, R237 decision D23. -/
def Obligations.StateAfterAFault : Prop :=
  ∀ (fuel : Nat) (s : State), s.run = .running →
    (∀ opc pc, step s = .fault (.unimplementedOpcode opc pc) →
      pc = s.pc ∧ memRead s.mem pc = .ok opc ∧
      runLoop (fuel + 1) s = .faulted (.unimplementedOpcode opc pc)
        (some { s with run := .halted (.error (.unimplementedOpcode opc pc)) })) ∧
    (∀ addr, step s = .fault (.addressSpaceViolation addr) →
      runLoop (fuel + 1) s = .faulted (.addressSpaceViolation addr) none) ∧
    ∀ i : Instr, afterFault (.unimplementedOperation i.operation) s =
      some { s with pc := s.pc + BitVec.ofNat 16 i.length,
                    run := .halted (.error (.unimplementedOperation i.operation)) }

/-- R267, R268: a run that has stopped gives the same result however much fuel is left. Derived: the
spec leaves fuel to the model (R268). -/
def Obligations.StoppedRunDoesNotDependOnFuel : Prop :=
  ∀ (fuel more : Nat) (s : State),
    (∀ t, runLoop fuel s = .stopped t → runLoop (fuel + more) s = .stopped t) ∧
    (∀ e u, runLoop fuel s = .faulted e u → runLoop (fuel + more) s = .faulted e u)
end

