-- ==== Sys2Proof/Laws/Bits.lean ====
section
/-! SUPPORT. Words and their bytes as numbers, and the bits of a Byte as comparisons of its number. -/

namespace Sys2Proof

@[simp] theorem toNat_mkWord (hi lo : Byte) : (mkWord hi lo).toNat = hi.toNat * 256 + lo.toNat := by
  simp only [mkWord, BitVec.toNat_append]
  rw [Nat.shiftLeft_eq, Nat.mul_comm, ← Nat.two_pow_add_eq_or_of_lt lo.isLt, Nat.mul_comm]

@[simp] theorem toNat_loByte (w : Word) : (loByte w).toNat = w.toNat % 256 := by
  simp [loByte, BitVec.extractLsb'_toNat]

@[simp] theorem toNat_hiByte (w : Word) : (hiByte w).toNat = w.toNat / 256 := by
  have := w.isLt
  simp only [hiByte, BitVec.extractLsb'_toNat, Nat.shiftRight_eq_div_pow]
  omega

@[simp] theorem mkWord_hiByte_loByte (w : Word) : mkWord (hiByte w) (loByte w) = w := by
  apply BitVec.eq_of_toNat_eq
  simp
  omega

@[simp] theorem loByte_mkWord (hi lo : Byte) : loByte (mkWord hi lo) = lo := by
  have := lo.isLt
  apply BitVec.eq_of_toNat_eq
  simp
  omega

@[simp] theorem hiByte_mkWord (hi lo : Byte) : hiByte (mkWord hi lo) = hi := by
  have := lo.isLt
  apply BitVec.eq_of_toNat_eq
  simp
  omega

@[simp] theorem toNat_zext16 (b : Byte) : (zext16 b).toNat = b.toNat := by
  have := b.isLt
  simp only [zext16, BitVec.toNat_setWidth]
  omega

/-- Bit 7 is the sign bit (R10): set from 128 on. -/
theorem bitAt_seven (v : Byte) : bitAt v 7 = decide (128 ≤ v.toNat) := by
  revert v
  decide

/-- Bit 6 is set when the number modulo 128 is at least 64. -/
theorem bitAt_six (v : Byte) : bitAt v 6 = decide (64 ≤ v.toNat % 128) := by
  revert v
  decide

/-- Bit 0 is set on odd numbers. -/
theorem bitAt_zero (v : Byte) : bitAt v 0 = decide (v.toNat % 2 = 1) := by
  revert v
  decide

/-- A Byte equals zero when its number does. -/
theorem beq_zero (v : Byte) : (v == 0x00#8) = decide (v.toNat = 0) := by
  revert v
  decide

/-- Unpacking a packed status gives its six flags back and leaves B (R37). -/
theorem unpack_pack (f g : Machine.Flags) : f.unpack g.pack = { g with b := f.b } := by
  have key : ∀ c z i d v n : Bool,
      let p : Byte := BitVec.ofNat 8 (n.toNat * 128 + v.toNat * 64 + 32 + 16 + d.toNat * 8
        + i.toNat * 4 + z.toNat * 2 + c.toNat)
      bitAt p 0 = c ∧ bitAt p 1 = z ∧ bitAt p 2 = i ∧ bitAt p 3 = d ∧ bitAt p 6 = v ∧ bitAt p 7 = n := by
    decide
  obtain ⟨h0, h1, h2, h3, h6, h7⟩ := key g.c g.z g.i g.d g.v g.n
  simp only [Machine.Flags.unpack, Machine.Flags.pack, h0, h1, h2, h3, h6, h7]

end Sys2Proof
end

