-- ==== Sys2Proof/Laws/Decode.lean ====
section
/-! SUPPORT. What a lookup in the opcode table can find, and how table rows and encodings agree. -/

namespace Sys2Proof

/-- A lookup finds a row of the list. -/
theorem mem_of_findRow {opc : Byte} {rows : List (Byte × Template)} {t : Template}
    (h : findRow opc rows = some t) : (opc, t) ∈ rows := by
  induction rows with
  | nil => cases h
  | cons r rows ih =>
    obtain ⟨b, u⟩ := r
    simp only [findRow] at h
    split at h
    · simp_all
    · exact List.mem_cons_of_mem _ (ih h)

/-- A template builds instructions whose encoding is the opcode byte and then the operand it was given. -/
def Template.EncodesAs (opc : Byte) : Template → Prop
  | .implied i => encode i = [opc] ∧ i.length = 1
  | .withByte f => ∀ op8, encode (f op8) = [opc, op8] ∧ (f op8).length = 2
  | .withWord f => ∀ op16, encode (f op16) = [opc, loByte op16, hiByte op16] ∧ (f op16).length = 3

set_option maxRecDepth 4000 in
/-- The encoder and the decode table, written from R86 each on its own, agree on every row. -/
theorem opcodeTable_encodesAs : ∀ row ∈ opcodeTable, row.2.EncodesAs row.1 := by
  simp only [opcodeTable, loadStoreRows, aluRows, shiftIncDecRows, controlFlowRows, stackFlagsRows,
    List.cons_append, List.nil_append, List.forall_mem_cons, Template.EncodesAs]
  repeat' apply And.intro
  all_goals first
    | rfl
    | exact fun _ => ⟨rfl, rfl⟩
    | exact fun _ h => absurd h List.not_mem_nil

/-- What a lookup finds encodes as the opcode byte it was looked up by. -/
theorem encodesAs_of_lookup {opc : Byte} {t : Template} (h : lookup opc = some t) : t.EncodesAs opc :=
  opcodeTable_encodesAs _ (mem_of_findRow h)

end Sys2Proof
end

