-- ==== Sys2Proof/Laws/Memory.lean ====
section
/-! SUPPORT. The laws of memory: read after write, the canonical form, the address map, the two-byte
accesses, the stack cells. -/

namespace Sys2Proof.Machine

/-! ### Cells -/

theorem cellAt_consCell (j k : Nat) (v : Byte) (rest : Memory)
    (h : cellAt k rest = Config.unlistedByte) :
    cellAt j (consCell k v rest) = if k = j then v else cellAt j rest := by
  unfold consCell
  by_cases hv : v = Config.unlistedByte
  · subst hv
    by_cases hk : k = j <;> simp_all
  · simp [hv, cellAt]

/-- Nothing is listed below the first address of a rising list. -/
theorem cellAt_of_lt (k : Nat) (m : Memory) (h : ∀ c ∈ m, k < c.1) :
    cellAt k m = Config.unlistedByte := by
  induction m with
  | nil => rfl
  | cons c rest ih =>
    have hc := h c (by simp)
    simp only [cellAt, show ¬ c.1 = k by omega, if_false]
    exact ih fun d hd => h d (by simp [hd])

/-- Read after write, at every cell. -/
theorem cellAt_setCell (j k : Nat) (v : Byte) (m : Memory)
    (h : m.Pairwise (fun c d => c.1 < d.1)) :
    cellAt j (setCell k v m) = if k = j then v else cellAt j m := by
  induction m with
  | nil => exact cellAt_consCell j k v [] rfl
  | cons c rest ih =>
    obtain ⟨i, u⟩ := c
    obtain ⟨hlt, hrest⟩ := List.pairwise_cons.mp h
    unfold setCell
    split
    next hki =>
      refine cellAt_consCell j k v _ (cellAt_of_lt k _ ?_)
      simp only [List.mem_cons, forall_eq_or_imp]
      exact ⟨hki, fun d hd => hki.trans (hlt d hd)⟩
    next hki =>
      split
      next hk =>
        subst hk
        rw [cellAt_consCell j k v _ (cellAt_of_lt k _ hlt)]
        by_cases hj : k = j <;> simp [cellAt, hj]
      next hk =>
        simp only [cellAt, ih hrest]
        by_cases hi : i = j
        · subst hi
          simp [hk]
        · simp [hi]

/-- Every cell of a list after a write is the written one or was there before. -/
theorem mem_setCell {c : Host.Cell} {k : Nat} {v : Byte} {m : Memory} (h : c ∈ setCell k v m) :
    (c = (k, v) ∧ v ≠ Config.unlistedByte) ∨ c ∈ m := by
  induction m with
  | nil =>
    by_cases hv : v = Config.unlistedByte <;> simp_all [setCell, consCell]
  | cons d rest ih =>
    obtain ⟨j, u⟩ := d
    by_cases hv : v = Config.unlistedByte
    · unfold setCell consCell at h
      split at h
      · exact .inr (by simpa [hv] using h)
      · split at h
        · exact .inr (List.mem_cons_of_mem _ (by simpa [hv] using h))
        · rcases List.mem_cons.mp h with rfl | h
          · exact .inr (by simp)
          · exact (ih h).imp id (List.mem_cons_of_mem _)
    · unfold setCell consCell at h
      split at h
      · rcases List.mem_cons.mp h with rfl | h
        · exact .inl ⟨rfl, hv⟩
        · exact .inr h
      · split at h
        · rcases List.mem_cons.mp (by simpa [hv] using h) with rfl | h
          · exact .inl ⟨rfl, hv⟩
          · exact .inr (List.mem_cons_of_mem _ h)
        · rcases List.mem_cons.mp h with rfl | h
          · exact .inr (by simp)
          · exact (ih h).imp id (List.mem_cons_of_mem _)

theorem pairwise_setCell (k : Nat) (v : Byte) (m : Memory)
    (h : m.Pairwise (fun c d => c.1 < d.1)) :
    (setCell k v m).Pairwise (fun c d => c.1 < d.1) := by
  induction m with
  | nil =>
    by_cases hv : v = Config.unlistedByte <;> simp [setCell, consCell, hv]
  | cons c rest ih =>
    obtain ⟨j, u⟩ := c
    obtain ⟨hlt, hrest⟩ := List.pairwise_cons.mp h
    unfold setCell consCell
    split
    next hkj =>
      split
      · exact h
      · refine List.pairwise_cons.mpr ⟨?_, h⟩
        simp only [List.mem_cons, forall_eq_or_imp]
        exact ⟨hkj, fun d hd => hkj.trans (hlt d hd)⟩
    next hkj =>
      split
      next hk =>
        subst hk
        split
        · exact hrest
        · exact List.pairwise_cons.mpr ⟨hlt, hrest⟩
      next hk =>
        refine List.pairwise_cons.mpr ⟨?_, ih hrest⟩
        intro d hd
        rcases mem_setCell hd with ⟨rfl, -⟩ | hd
        · show j < k
          omega
        · exact hlt d hd

/-- A write to a cell that exists keeps the canonical form. -/
theorem wf_setCell {k : Nat} {v : Byte} {m : Memory} (hk : cellExists k = true) (h : Memory.wf m) :
    Memory.wf (setCell k v m) := by
  refine ⟨pairwise_setCell k v m h.1, fun c hc => ?_⟩
  rcases mem_setCell hc with ⟨rfl, hv⟩ | hc
  · exact ⟨hv, hk⟩
  · exact h.2 c hc

/-! ### `peek` and `poke` -/

theorem wf_nil : Memory.wf [] := by simp [Memory.wf]

theorem wf_poke {m : Memory} {addr : Word} (v : Byte) (ha : mapped addr = true) (h : Memory.wf m) :
    Memory.wf (poke m addr v) := wf_setCell ha h

theorem peek_poke {m : Memory} (h : Memory.wf m) (addr b : Word) (v : Byte) :
    peek (poke m addr v) b = if addr = b then v else peek m b := by
  simp only [peek, poke, cellAt_setCell _ _ _ _ h.1]
  by_cases hb : addr = b
  · simp [hb]
  · simp [hb, BitVec.toNat_inj]

/-! ### The address map -/

theorem mapped_iff (addr : Word) :
    mapped addr = true ↔ addr.toNat ≤ 0x07FF ∨ 0x8000 ≤ addr.toNat := by
  have := addr.isLt
  simp only [mapped, cellExists, Bool.or_eq_true, decide_eq_true_eq]
  simp only [Config.ramStart, Config.ramSize, Config.romStart, Config.romSize]
  omega

theorem mapped_zext16 (b : Byte) : mapped (zext16 b) = true := by
  have := b.isLt
  rw [mapped_iff]
  simp only [zext16, BitVec.toNat_setWidth]
  omega

theorem toNat_stackAddr (sp : Byte) : (stackAddr sp).toNat = 0x0100 + sp.toNat := by
  have := sp.isLt
  simp only [stackAddr, Config.stackPage, zext16, BitVec.toNat_add, BitVec.toNat_setWidth,
    BitVec.toNat_ofNat]
  omega

/-- The stack page lies inside RAM, so a stack access never faults (R61). -/
theorem mapped_stackAddr (sp : Byte) : mapped (stackAddr sp) = true := by
  have := sp.isLt
  rw [mapped_iff, toNat_stackAddr]
  omega

theorem stackAddr_inj {p q : Byte} : stackAddr p = stackAddr q ↔ p = q := by
  rw [← BitVec.toNat_inj, toNat_stackAddr, toNat_stackAddr, ← BitVec.toNat_inj]
  omega

/-! ### The primitives -/

theorem memRead_of_mapped {m : Memory} {addr : Word} (h : mapped addr = true) :
    memRead m addr = .ok (peek m addr) := by simp [memRead, h]

theorem memRead_of_unmapped {m : Memory} {addr : Word} (h : mapped addr = false) :
    memRead m addr = .error (.addressSpaceViolation addr) := by simp [memRead, h]

/-- Everything a read can do. -/
theorem memRead_eq_ok {m : Memory} {addr : Word} {v : Byte} :
    memRead m addr = .ok v ↔ mapped addr = true ∧ v = peek m addr := by
  by_cases h : mapped addr = true <;> simp [memRead, h, eq_comm]

theorem memRead_eq_error {m : Memory} {addr : Word} {e : Fault} :
    memRead m addr = .error e ↔ mapped addr = false ∧ e = .addressSpaceViolation addr := by
  by_cases h : mapped addr = true <;> simp [memRead, h, eq_comm]

/-- Everything a write can do. -/
theorem memWrite_eq_ok {m m' : Memory} {addr : Word} {v : Byte} :
    memWrite m addr v = .ok m' ↔ mapped addr = true ∧ m' = poke m addr v := by
  by_cases h : mapped addr = true <;> simp [memWrite, h, eq_comm]

theorem memWrite_eq_error {m : Memory} {addr : Word} {v : Byte} {e : Fault} :
    memWrite m addr v = .error e ↔ mapped addr = false ∧ e = .addressSpaceViolation addr := by
  by_cases h : mapped addr = true <;> simp [memWrite, h, eq_comm]

/-- Everything a two-byte read can do when it succeeds. -/
theorem memRead16_eq_ok {m : Memory} {addr w : Word} :
    memRead16 m addr = .ok w ↔ mapped addr = true ∧ mapped (addr + 1#16) = true ∧
      w = mkWord (peek m (addr + 1#16)) (peek m addr) := by
  by_cases h0 : mapped addr = true <;> by_cases h1 : mapped (addr + 1#16) = true <;>
    simp [memRead16, memRead, h0, h1, eq_comm]

/-- A two-byte read faults on its first unmapped byte, low before high. -/
theorem memRead16_eq_error {m : Memory} {addr : Word} {e : Fault} :
    memRead16 m addr = .error e ↔
      (mapped addr = false ∧ e = .addressSpaceViolation addr) ∨
      (mapped addr = true ∧ mapped (addr + 1#16) = false ∧
        e = .addressSpaceViolation (addr + 1#16)) := by
  by_cases h0 : mapped addr = true <;> by_cases h1 : mapped (addr + 1#16) = true <;>
    simp [memRead16, memRead, h0, h1, eq_comm]

/-- A successful two-byte write is two byte writes. -/
theorem memWrite16_eq_ok {m m' : Memory} {addr v : Word} :
    memWrite16 m addr v = .ok m' ↔ mapped addr = true ∧ mapped (addr + 1#16) = true ∧
      m' = poke (poke m addr (loByte v)) (addr + 1#16) (hiByte v) := by
  by_cases h0 : mapped addr = true <;> by_cases h1 : mapped (addr + 1#16) = true <;>
    simp [memWrite16, memWrite, h0, h1, eq_comm]

/-- Writing a list of bytes to existing cells keeps the canonical form. -/
theorem wf_pokeBytes (bytes : List Byte) (m : Memory) (addr : Word)
    (ha : ∀ k < bytes.length, mapped (addr + BitVec.ofNat 16 k) = true) (h : Memory.wf m) :
    Memory.wf (pokeBytes m addr bytes) := by
  induction bytes generalizing m addr with
  | nil => exact h
  | cons b bs ih =>
    have h0 : mapped addr = true := by simpa using ha 0 (by simp)
    refine ih _ _ (fun k hk => ?_) (wf_poke b h0 h)
    have := ha (k + 1) (by simpa using hk)
    rwa [BitVec.ofNat_add, BitVec.add_comm (BitVec.ofNat 16 k), ← BitVec.add_assoc] at this

end Sys2Proof.Machine
end

