-- ==== Sys2Proof/Laws/State.lean ====
section
/-! SUPPORT. One lemma per field per update of the state, so that no proof unfolds a record update. -/

namespace Sys2Proof.Machine

variable (s : State)

/-! ### `setA` -/

section
variable (v : Byte)
@[simp] theorem setA_pc : (s.setA v).pc = s.pc := rfl
@[simp] theorem setA_sp : (s.setA v).sp = s.sp := rfl
@[simp] theorem setA_a : (s.setA v).a = v := rfl
@[simp] theorem setA_x : (s.setA v).x = s.x := rfl
@[simp] theorem setA_y : (s.setA v).y = s.y := rfl
@[simp] theorem setA_flags : (s.setA v).flags = s.flags := rfl
@[simp] theorem setA_run : (s.setA v).run = s.run := rfl
@[simp] theorem setA_mem : (s.setA v).mem = s.mem := rfl
end

/-! ### `setX` -/

section
variable (v : Byte)
@[simp] theorem setX_pc : (s.setX v).pc = s.pc := rfl
@[simp] theorem setX_sp : (s.setX v).sp = s.sp := rfl
@[simp] theorem setX_a : (s.setX v).a = s.a := rfl
@[simp] theorem setX_x : (s.setX v).x = v := rfl
@[simp] theorem setX_y : (s.setX v).y = s.y := rfl
@[simp] theorem setX_flags : (s.setX v).flags = s.flags := rfl
@[simp] theorem setX_run : (s.setX v).run = s.run := rfl
@[simp] theorem setX_mem : (s.setX v).mem = s.mem := rfl
end

/-! ### `setY` -/

section
variable (v : Byte)
@[simp] theorem setY_pc : (s.setY v).pc = s.pc := rfl
@[simp] theorem setY_sp : (s.setY v).sp = s.sp := rfl
@[simp] theorem setY_a : (s.setY v).a = s.a := rfl
@[simp] theorem setY_x : (s.setY v).x = s.x := rfl
@[simp] theorem setY_y : (s.setY v).y = v := rfl
@[simp] theorem setY_flags : (s.setY v).flags = s.flags := rfl
@[simp] theorem setY_run : (s.setY v).run = s.run := rfl
@[simp] theorem setY_mem : (s.setY v).mem = s.mem := rfl
end

/-! ### `setSp` -/

section
variable (v : Byte)
@[simp] theorem setSp_pc : (s.setSp v).pc = s.pc := rfl
@[simp] theorem setSp_sp : (s.setSp v).sp = v := rfl
@[simp] theorem setSp_a : (s.setSp v).a = s.a := rfl
@[simp] theorem setSp_x : (s.setSp v).x = s.x := rfl
@[simp] theorem setSp_y : (s.setSp v).y = s.y := rfl
@[simp] theorem setSp_flags : (s.setSp v).flags = s.flags := rfl
@[simp] theorem setSp_run : (s.setSp v).run = s.run := rfl
@[simp] theorem setSp_mem : (s.setSp v).mem = s.mem := rfl
end

/-! ### `setPc` -/

section
variable (v : Word)
@[simp] theorem setPc_pc : (s.setPc v).pc = v := rfl
@[simp] theorem setPc_sp : (s.setPc v).sp = s.sp := rfl
@[simp] theorem setPc_a : (s.setPc v).a = s.a := rfl
@[simp] theorem setPc_x : (s.setPc v).x = s.x := rfl
@[simp] theorem setPc_y : (s.setPc v).y = s.y := rfl
@[simp] theorem setPc_flags : (s.setPc v).flags = s.flags := rfl
@[simp] theorem setPc_run : (s.setPc v).run = s.run := rfl
@[simp] theorem setPc_mem : (s.setPc v).mem = s.mem := rfl
end

/-! ### `setFlags` -/

section
variable (f : Flags)
@[simp] theorem setFlags_pc : (s.setFlags f).pc = s.pc := rfl
@[simp] theorem setFlags_sp : (s.setFlags f).sp = s.sp := rfl
@[simp] theorem setFlags_a : (s.setFlags f).a = s.a := rfl
@[simp] theorem setFlags_x : (s.setFlags f).x = s.x := rfl
@[simp] theorem setFlags_y : (s.setFlags f).y = s.y := rfl
@[simp] theorem setFlags_flags : (s.setFlags f).flags = f := rfl
@[simp] theorem setFlags_run : (s.setFlags f).run = s.run := rfl
@[simp] theorem setFlags_mem : (s.setFlags f).mem = s.mem := rfl
end

/-! ### `setMem` -/

section
variable (m : Memory)
@[simp] theorem setMem_pc : (s.setMem m).pc = s.pc := rfl
@[simp] theorem setMem_sp : (s.setMem m).sp = s.sp := rfl
@[simp] theorem setMem_a : (s.setMem m).a = s.a := rfl
@[simp] theorem setMem_x : (s.setMem m).x = s.x := rfl
@[simp] theorem setMem_y : (s.setMem m).y = s.y := rfl
@[simp] theorem setMem_flags : (s.setMem m).flags = s.flags := rfl
@[simp] theorem setMem_run : (s.setMem m).run = s.run := rfl
@[simp] theorem setMem_mem : (s.setMem m).mem = m := rfl
end

/-! ### `setRun` -/

section
variable (r : RunState)
@[simp] theorem setRun_pc : (s.setRun r).pc = s.pc := rfl
@[simp] theorem setRun_sp : (s.setRun r).sp = s.sp := rfl
@[simp] theorem setRun_a : (s.setRun r).a = s.a := rfl
@[simp] theorem setRun_x : (s.setRun r).x = s.x := rfl
@[simp] theorem setRun_y : (s.setRun r).y = s.y := rfl
@[simp] theorem setRun_flags : (s.setRun r).flags = s.flags := rfl
@[simp] theorem setRun_run : (s.setRun r).run = r := rfl
@[simp] theorem setRun_mem : (s.setRun r).mem = s.mem := rfl
end

/-! ### `SetZN` on the machine and on the flags -/

section
variable (v : Byte) (f : Flags)
@[simp] theorem setZN_pc : (s.setZN v).pc = s.pc := rfl
@[simp] theorem setZN_sp : (s.setZN v).sp = s.sp := rfl
@[simp] theorem setZN_a : (s.setZN v).a = s.a := rfl
@[simp] theorem setZN_x : (s.setZN v).x = s.x := rfl
@[simp] theorem setZN_y : (s.setZN v).y = s.y := rfl
@[simp] theorem setZN_flags : (s.setZN v).flags = s.flags.setZN v := rfl
@[simp] theorem setZN_run : (s.setZN v).run = s.run := rfl
@[simp] theorem setZN_mem : (s.setZN v).mem = s.mem := rfl
@[simp] theorem Flags.setZN_c : (f.setZN v).c = f.c := rfl
@[simp] theorem Flags.setZN_i : (f.setZN v).i = f.i := rfl
@[simp] theorem Flags.setZN_d : (f.setZN v).d = f.d := rfl
@[simp] theorem Flags.setZN_b : (f.setZN v).b = f.b := rfl
@[simp] theorem Flags.setZN_v : (f.setZN v).v = f.v := rfl
@[simp] theorem Flags.setZN_z : (f.setZN v).z = (v == 0x00#8) := rfl
@[simp] theorem Flags.setZN_n : (f.setZN v).n = bitAt v 7 := rfl
end

/-! ### What the other flag computations leave alone -/

section
variable (f : Flags) (a m r p : Byte) (out : Bool)
@[simp] theorem Flags.afterAdd_i : (f.afterAdd a m).i = f.i := rfl
@[simp] theorem Flags.afterAdd_d : (f.afterAdd a m).d = f.d := rfl
@[simp] theorem Flags.afterAdd_b : (f.afterAdd a m).b = f.b := rfl
@[simp] theorem Flags.afterCompare_i : (f.afterCompare r m).i = f.i := rfl
@[simp] theorem Flags.afterCompare_d : (f.afterCompare r m).d = f.d := rfl
@[simp] theorem Flags.afterCompare_b : (f.afterCompare r m).b = f.b := rfl
@[simp] theorem Flags.afterCompare_v : (f.afterCompare r m).v = f.v := rfl
@[simp] theorem Flags.afterBit_c : (f.afterBit a m).c = f.c := rfl
@[simp] theorem Flags.afterBit_i : (f.afterBit a m).i = f.i := rfl
@[simp] theorem Flags.afterBit_d : (f.afterBit a m).d = f.d := rfl
@[simp] theorem Flags.afterBit_b : (f.afterBit a m).b = f.b := rfl
@[simp] theorem Flags.afterShift_i : (f.afterShift out r).i = f.i := rfl
@[simp] theorem Flags.afterShift_d : (f.afterShift out r).d = f.d := rfl
@[simp] theorem Flags.afterShift_b : (f.afterShift out r).b = f.b := rfl
@[simp] theorem Flags.afterShift_v : (f.afterShift out r).v = f.v := rfl
@[simp] theorem Flags.unpack_b : (f.unpack p).b = f.b := rfl
end

/-! ### The stack, the halt, the return and the advance of PC -/

section
variable (v : Byte) (w : Word) (i : Instr)
@[simp] theorem push_pc : (push v s).pc = s.pc := rfl
@[simp] theorem push_sp : (push v s).sp = s.sp - 1#8 := rfl
@[simp] theorem push_a : (push v s).a = s.a := rfl
@[simp] theorem push_x : (push v s).x = s.x := rfl
@[simp] theorem push_y : (push v s).y = s.y := rfl
@[simp] theorem push_flags : (push v s).flags = s.flags := rfl
@[simp] theorem push_run : (push v s).run = s.run := rfl
@[simp] theorem push_mem : (push v s).mem = poke s.mem (stackAddr s.sp) v := rfl
@[simp] theorem pulled_pc : (pulled s).pc = s.pc := rfl
@[simp] theorem pulled_sp : (pulled s).sp = s.sp + 1#8 := rfl
@[simp] theorem pulled_a : (pulled s).a = s.a := rfl
@[simp] theorem pulled_x : (pulled s).x = s.x := rfl
@[simp] theorem pulled_y : (pulled s).y = s.y := rfl
@[simp] theorem pulled_flags : (pulled s).flags = s.flags := rfl
@[simp] theorem pulled_run : (pulled s).run = s.run := rfl
@[simp] theorem pulled_mem : (pulled s).mem = s.mem := rfl
@[simp] theorem push16_pc : (push16 w s).pc = s.pc := rfl
@[simp] theorem push16_sp : (push16 w s).sp = s.sp - 1#8 - 1#8 := rfl
@[simp] theorem push16_a : (push16 w s).a = s.a := rfl
@[simp] theorem push16_x : (push16 w s).x = s.x := rfl
@[simp] theorem push16_y : (push16 w s).y = s.y := rfl
@[simp] theorem push16_flags : (push16 w s).flags = s.flags := rfl
@[simp] theorem push16_run : (push16 w s).run = s.run := rfl
@[simp] theorem push16_mem : (push16 w s).mem = 
    poke (poke s.mem (stackAddr s.sp) (hiByte w)) (stackAddr (s.sp - 1#8)) (loByte w) := rfl
@[simp] theorem pulled16_pc : (pulled16 s).pc = s.pc := rfl
@[simp] theorem pulled16_sp : (pulled16 s).sp = s.sp + 1#8 + 1#8 := rfl
@[simp] theorem pulled16_a : (pulled16 s).a = s.a := rfl
@[simp] theorem pulled16_x : (pulled16 s).x = s.x := rfl
@[simp] theorem pulled16_y : (pulled16 s).y = s.y := rfl
@[simp] theorem pulled16_flags : (pulled16 s).flags = s.flags := rfl
@[simp] theorem pulled16_run : (pulled16 s).run = s.run := rfl
@[simp] theorem pulled16_mem : (pulled16 s).mem = s.mem := rfl
@[simp] theorem haltBreak_pc : (haltBreak s).pc = s.pc := rfl
@[simp] theorem haltBreak_sp : (haltBreak s).sp = s.sp := rfl
@[simp] theorem haltBreak_a : (haltBreak s).a = s.a := rfl
@[simp] theorem haltBreak_x : (haltBreak s).x = s.x := rfl
@[simp] theorem haltBreak_y : (haltBreak s).y = s.y := rfl
@[simp] theorem haltBreak_flags : (haltBreak s).flags = s.flags := rfl
@[simp] theorem haltBreak_run : (haltBreak s).run = .halted .brk := rfl
@[simp] theorem haltBreak_mem : (haltBreak s).mem = s.mem := rfl
@[simp] theorem returnFromInterrupt_pc : (returnFromInterrupt s).pc = 
    pulledWord ((pulled s).setFlags (s.flags.unpack (pulledByte s))) := rfl
@[simp] theorem returnFromInterrupt_sp : (returnFromInterrupt s).sp = s.sp + 1#8 + 1#8 + 1#8 := rfl
@[simp] theorem returnFromInterrupt_a : (returnFromInterrupt s).a = s.a := rfl
@[simp] theorem returnFromInterrupt_x : (returnFromInterrupt s).x = s.x := rfl
@[simp] theorem returnFromInterrupt_y : (returnFromInterrupt s).y = s.y := rfl
@[simp] theorem returnFromInterrupt_flags : (returnFromInterrupt s).flags = s.flags.unpack (pulledByte s) := rfl
@[simp] theorem returnFromInterrupt_run : (returnFromInterrupt s).run = s.run := rfl
@[simp] theorem returnFromInterrupt_mem : (returnFromInterrupt s).mem = s.mem := rfl
@[simp] theorem advance_pc : (advance s i).pc = s.pc + BitVec.ofNat 16 i.length := rfl
@[simp] theorem advance_sp : (advance s i).sp = s.sp := rfl
@[simp] theorem advance_a : (advance s i).a = s.a := rfl
@[simp] theorem advance_x : (advance s i).x = s.x := rfl
@[simp] theorem advance_y : (advance s i).y = s.y := rfl
@[simp] theorem advance_flags : (advance s i).flags = s.flags := rfl
@[simp] theorem advance_run : (advance s i).run = s.run := rfl
@[simp] theorem advance_mem : (advance s i).mem = s.mem := rfl
end

end Sys2Proof.Machine
end

