-- ==== Sys2Proof/Laws/Operands.lean ====
section
/-! SUPPORT. What the resolver and the shared shapes of an instruction can do: one lemma each. -/

namespace Sys2Proof.Machine

/-- The resolver faults only on an unmapped pointer byte (R102, R234). -/
theorem effectiveAddress_eq_error {mode : AddrMode} {s : State} {e : Fault}
    (h : effectiveAddress mode s = .error e) :
    ∃ addr, mapped addr = false ∧ e = .addressSpaceViolation addr := by
  have key : ∀ p : Word, memRead16 s.mem p = .error e →
      ∃ addr, mapped addr = false ∧ e = .addressSpaceViolation addr := by
    intro p hp
    rcases memRead16_eq_error.mp hp with ⟨h0, rfl⟩ | ⟨-, h1, rfl⟩
    · exact ⟨_, h0, rfl⟩
    · exact ⟨_, h1, rfl⟩
  cases mode <;> simp only [effectiveAddress, reduceCtorEq] at h
  case ind => exact key _ h
  case indx => exact key _ h
  case indy op8 =>
    split at h
    · next hp => cases h; exact key _ hp
    · cases h

/-- A zero-page pointer is always readable: its two bytes lie in 0x0000-0x0100. -/
theorem memRead16_zext16 (m : Memory) (b : Byte) : ∃ w, memRead16 m (zext16 b) = .ok w := by
  have h0 := mapped_zext16 b
  have h1 : mapped (zext16 b + 1#16) = true := by
    have := b.isLt
    rw [mapped_iff]
    simp only [BitVec.toNat_add, toNat_zext16, BitVec.toNat_ofNat]
    omega
  simp only [memRead16, memRead_of_mapped h0, memRead_of_mapped h1]
  exact ⟨_, rfl⟩

/-- Every mode but IND forms its effective address in every state. -/
theorem effectiveAddress_eq_ok {mode : AddrMode} (h : mode.format ≠ .ind) (s : State) :
    ∃ ea, effectiveAddress mode s = .ok ea := by
  cases mode with
  | zp | zpx | zpy | abs | absx | absy | rel => exact ⟨_, rfl⟩
  | ind => exact absurd rfl h
  | indx op8 => exact memRead16_zext16 _ _
  | indy op8 =>
    obtain ⟨w, hw⟩ := memRead16_zext16 s.mem op8
    simp only [effectiveAddress, hw]
    exact ⟨_, rfl⟩

/-- A Value resolution faults only on an unmapped pointer byte or data byte (R102, R234). -/
theorem resolveValue_eq_error {src : ValueSource} {s : State} {e : Fault}
    (h : resolveValue src s = .error e) :
    ∃ addr, mapped addr = false ∧ e = .addressSpaceViolation addr := by
  cases src with
  | imm => cases h
  | mem mode =>
    simp only [resolveValue] at h
    split at h
    · next he => cases h; exact effectiveAddress_eq_error he
    · exact ⟨_, memRead_eq_error.mp h⟩

/-- Everything a Value resolution from memory can do when it succeeds. -/
theorem resolveValue_mem_eq_ok {mode : AddrMode} {s : State} {m : Byte} :
    resolveValue (.mem mode) s = .ok m ↔
      ∃ ea, effectiveAddress mode s = .ok ea ∧ mapped ea = true ∧ m = peek s.mem ea := by
  simp only [resolveValue]
  split <;> simp_all [memRead_eq_ok]

theorem resolve_value_eq_ok {src : ValueSource} {s : State} {m : Byte} :
    resolve (.value src) s = .ok (.value m) ↔ resolveValue src s = .ok m := by
  simp only [resolve]
  cases resolveValue src s <;> simp

theorem resolve_value_eq_error {src : ValueSource} {s : State} {e : Fault} :
    resolve (.value src) s = .error e ↔ resolveValue src s = .error e := by
  simp only [resolve]
  cases resolveValue src s <;> simp

/-- Everything a value instruction can do. -/
theorem withValue_cases (src : ValueSource) (s : State) (k : Byte → State) :
    (∃ m, resolveValue src s = .ok m ∧ withValue src s k = .next (k m)) ∨
    (∃ e, resolveValue src s = .error e ∧ withValue src s k = .fault e) := by
  unfold withValue raise
  cases resolveValue src s <;> simp

theorem withValue_eq_next {src : ValueSource} {s t : State} {k : Byte → State} :
    withValue src s k = .next t ↔ ∃ m, resolveValue src s = .ok m ∧ t = k m := by
  unfold withValue raise
  cases resolveValue src s <;> simp [eq_comm]

theorem withAddress_eq_next {mode : AddrMode} {s t : State} {k : Word → State} :
    withAddress mode s k = .next t ↔ ∃ ea, effectiveAddress mode s = .ok ea ∧ t = k ea := by
  unfold withAddress raise
  cases effectiveAddress mode s <;> simp [eq_comm]

/-- Everything a jump or branch can do. -/
theorem withAddress_cases (mode : AddrMode) (s : State) (k : Word → State) :
    (∃ ea, effectiveAddress mode s = .ok ea ∧ withAddress mode s k = .next (k ea)) ∨
    (∃ e, effectiveAddress mode s = .error e ∧ withAddress mode s k = .fault e) := by
  unfold withAddress raise
  cases effectiveAddress mode s <;> simp

theorem storeByte_eq_next {mode : AddrMode} {v : Byte} {s t : State} :
    storeByte mode v s = .next t ↔
      ∃ ea, effectiveAddress mode s = .ok ea ∧ mapped ea = true ∧ t = s.setMem (poke s.mem ea v) := by
  unfold storeByte raise
  cases effectiveAddress mode s with
  | error => simp
  | ok ea => by_cases h : mapped ea = true <;> simp [memWrite, h, @eq_comm State t]

/-- Everything a store can do. -/
theorem storeByte_cases (mode : AddrMode) (v : Byte) (s : State) :
    (∃ ea, effectiveAddress mode s = .ok ea ∧ mapped ea = true ∧
      storeByte mode v s = .next (s.setMem (poke s.mem ea v))) ∨
    (∃ addr, mapped addr = false ∧ storeByte mode v s = .fault (.addressSpaceViolation addr)) := by
  unfold storeByte raise
  cases h : effectiveAddress mode s with
  | error e =>
    obtain ⟨addr, ha, rfl⟩ := effectiveAddress_eq_error h
    exact .inr ⟨addr, ha, rfl⟩
  | ok ea =>
    by_cases hm : mapped ea = true
    · exact .inl ⟨ea, rfl, hm, by simp [memWrite, hm]⟩
    · exact .inr ⟨ea, by simpa using hm, by simp [memWrite, hm]⟩

theorem modifyByte_eq_next {mode : AddrMode} {s t : State} {r : Byte → Byte} {f : Byte → Flags} :
    modifyByte mode s r f = .next t ↔
      ∃ ea, effectiveAddress mode s = .ok ea ∧ mapped ea = true ∧
        t = (s.setMem (poke s.mem ea (r (peek s.mem ea)))).setFlags (f (peek s.mem ea)) := by
  unfold modifyByte raise
  cases effectiveAddress mode s with
  | error => simp
  | ok ea => by_cases h : mapped ea = true <;> simp [memWrite, memRead, h, @eq_comm State t]

/-- Everything a read-modify-write can do (R170). -/
theorem modifyByte_cases (mode : AddrMode) (s : State) (r : Byte → Byte) (f : Byte → Flags) :
    (∃ ea, effectiveAddress mode s = .ok ea ∧ mapped ea = true ∧ modifyByte mode s r f =
      .next ((s.setMem (poke s.mem ea (r (peek s.mem ea)))).setFlags (f (peek s.mem ea)))) ∨
    (∃ addr, mapped addr = false ∧
      modifyByte mode s r f = .fault (.addressSpaceViolation addr)) := by
  unfold modifyByte raise
  cases h : effectiveAddress mode s with
  | error e =>
    obtain ⟨addr, ha, rfl⟩ := effectiveAddress_eq_error h
    exact .inr ⟨addr, ha, rfl⟩
  | ok ea =>
    by_cases hm : mapped ea = true
    · exact .inl ⟨ea, rfl, hm, by simp [memWrite, memRead, hm]⟩
    · exact .inr ⟨ea, by simpa using hm, by simp [memRead, hm]⟩

/-- A stack cell just written reads as what was written, a different one as before. -/
theorem peek_push {s : State} (h : Memory.wf s.mem) (v : Byte) (b : Word) :
    peek (push v s).mem b = if stackAddr s.sp = b then v else peek s.mem b :=
  peek_poke h _ _ _

theorem wf_push {s : State} (h : Memory.wf s.mem) (v : Byte) : Memory.wf (push v s).mem :=
  wf_poke v (mapped_stackAddr _) h

theorem wf_push16 {s : State} (h : Memory.wf s.mem) (w : Word) : Memory.wf (push16 w s).mem :=
  wf_push (wf_push h _) _

end Sys2Proof.Machine
end

