-- ==== Sys2Proof/Laws/Perform.lean ====
section
/-! SUPPORT. The executor by mnemonic: `exec` of an instruction is its mnemonic's rule over its operand, so
that a proof about a mnemonic is one proof, not one per row of the opcode table. -/

namespace Sys2Proof.Machine

/-- The rule of an Operation's mnemonic over its operand; an Operation the decode table cannot produce
(`Operation.wf`) has none. -/
def performOf (op : Operation) (s : State) : Option StepResult :=
  match op with
  | ⟨.lda, .value src⟩ => some (performLda src s)
  | ⟨.ldx, .value src⟩ => some (performLdx src s)
  | ⟨.ldy, .value src⟩ => some (performLdy src s)
  | ⟨.sta, .location mode⟩ => some (performSta mode s)
  | ⟨.stx, .location mode⟩ => some (performStx mode s)
  | ⟨.sty, .location mode⟩ => some (performSty mode s)
  | ⟨.tax, .implied⟩ => some (performTax s)
  | ⟨.tay, .implied⟩ => some (performTay s)
  | ⟨.txa, .implied⟩ => some (performTxa s)
  | ⟨.tya, .implied⟩ => some (performTya s)
  | ⟨.tsx, .implied⟩ => some (performTsx s)
  | ⟨.txs, .implied⟩ => some (performTxs s)
  | ⟨.adc, .value src⟩ => some (performAdc src s)
  | ⟨.sbc, .value src⟩ => some (performSbc src s)
  | ⟨.and, .value src⟩ => some (performAnd src s)
  | ⟨.ora, .value src⟩ => some (performOra src s)
  | ⟨.eor, .value src⟩ => some (performEor src s)
  | ⟨.cmp, .value src⟩ => some (performCmp src s)
  | ⟨.cpx, .value src⟩ => some (performCpx src s)
  | ⟨.cpy, .value src⟩ => some (performCpy src s)
  | ⟨.bit, .value src⟩ => some (performBit src s)
  | ⟨.asl, .accumulator⟩ => some (performAslAcc s)
  | ⟨.asl, .location mode⟩ => some (performAsl mode s)
  | ⟨.lsr, .accumulator⟩ => some (performLsrAcc s)
  | ⟨.lsr, .location mode⟩ => some (performLsr mode s)
  | ⟨.rol, .accumulator⟩ => some (performRolAcc s)
  | ⟨.rol, .location mode⟩ => some (performRol mode s)
  | ⟨.ror, .accumulator⟩ => some (performRorAcc s)
  | ⟨.ror, .location mode⟩ => some (performRor mode s)
  | ⟨.inc, .location mode⟩ => some (performInc mode s)
  | ⟨.dec, .location mode⟩ => some (performDec mode s)
  | ⟨.inx, .implied⟩ => some (performInx s)
  | ⟨.iny, .implied⟩ => some (performIny s)
  | ⟨.dex, .implied⟩ => some (performDex s)
  | ⟨.dey, .implied⟩ => some (performDey s)
  | ⟨.jmp, .location mode⟩ => some (performJmp mode s)
  | ⟨.jsr, .location mode⟩ => some (performJsr mode s)
  | ⟨.rts, .implied⟩ => some (performRts s)
  | ⟨.bcc, .location mode⟩ => some (performBcc mode s)
  | ⟨.bcs, .location mode⟩ => some (performBcs mode s)
  | ⟨.beq, .location mode⟩ => some (performBeq mode s)
  | ⟨.bne, .location mode⟩ => some (performBne mode s)
  | ⟨.bmi, .location mode⟩ => some (performBmi mode s)
  | ⟨.bpl, .location mode⟩ => some (performBpl mode s)
  | ⟨.bvc, .location mode⟩ => some (performBvc mode s)
  | ⟨.bvs, .location mode⟩ => some (performBvs mode s)
  | ⟨.pha, .implied⟩ => some (performPha s)
  | ⟨.php, .implied⟩ => some (performPhp s)
  | ⟨.pla, .implied⟩ => some (performPla s)
  | ⟨.plp, .implied⟩ => some (performPlp s)
  | ⟨.clc, .implied⟩ => some (performClc s)
  | ⟨.sec, .implied⟩ => some (performSec s)
  | ⟨.cli, .implied⟩ => some (performCli s)
  | ⟨.sei, .implied⟩ => some (performSei s)
  | ⟨.cld, .implied⟩ => some (performCld s)
  | ⟨.sed, .implied⟩ => some (performSed s)
  | ⟨.clv, .implied⟩ => some (performClv s)
  | ⟨.nop, .implied⟩ => some (performNop s)
  | ⟨.rti, .implied⟩ => some (performRti s)
  | ⟨.brk, .implied⟩ => some (performBrk s)
  | _ => none

/-- Every arm of `exec` is its mnemonic's rule. -/
theorem performOf_operation (i : Instr) (s : State) : performOf i.operation s = some (exec i s) := by
  cases i <;> rfl

/-- `exec` of an instruction whose Operation has a rule is that rule. -/
theorem exec_of_operation {i : Instr} {op : Operation} {s : State} {r : StepResult}
    (hi : i.operation = op) (hr : performOf op s = some r) : exec i s = r := by
  have h := performOf_operation i s
  rw [hi, hr] at h
  exact (Option.some.inj h).symm

end Sys2Proof.Machine
end

