-- ==== Sys2Proof/Laws/Exec.lean ====
section
/-! SUPPORT. What the executor can do, said once: a next state, or a violation at an unmapped address. -/

namespace Sys2Proof.Machine

/-- A result is a next state or a violation at an unmapped address: nothing else an instruction can
answer (R233, R234). -/
def Settles (r : StepResult) : Prop :=
  (∃ t, r = .next t) ∨ ∃ addr, mapped addr = false ∧ r = .fault (.addressSpaceViolation addr)

theorem settles_next (t : State) : Settles (.next t) := .inl ⟨t, rfl⟩

theorem settles_withValue (src : ValueSource) (s : State) (k : Byte → State) :
    Settles (withValue src s k) := by
  rcases withValue_cases src s k with ⟨m, -, h⟩ | ⟨e, he, h⟩
  · exact .inl ⟨_, h⟩
  · obtain ⟨addr, ha, rfl⟩ := resolveValue_eq_error he
    exact .inr ⟨addr, ha, h⟩

theorem settles_withAddress (mode : AddrMode) (s : State) (k : Word → State) :
    Settles (withAddress mode s k) := by
  rcases withAddress_cases mode s k with ⟨ea, -, h⟩ | ⟨e, he, h⟩
  · exact .inl ⟨_, h⟩
  · obtain ⟨addr, ha, rfl⟩ := effectiveAddress_eq_error he
    exact .inr ⟨addr, ha, h⟩

theorem settles_storeByte (mode : AddrMode) (v : Byte) (s : State) : Settles (storeByte mode v s) := by
  rcases storeByte_cases mode v s with ⟨_, -, -, h⟩ | h
  · exact .inl ⟨_, h⟩
  · exact .inr h

theorem settles_modifyByte (mode : AddrMode) (s : State) (r : Byte → Byte) (f : Byte → Flags) :
    Settles (modifyByte mode s r f) := by
  rcases modifyByte_cases mode s r f with ⟨_, -, -, h⟩ | h
  · exact .inl ⟨_, h⟩
  · exact .inr h

/-- Every instruction, in every state, answers a next state or a violation at an unmapped address. -/
theorem settles_exec (i : Instr) (s : State) : Settles (exec i s) := by
  have h := performOf_operation i s
  unfold performOf at h
  split at h
  all_goals first
    | rw [← Option.some.inj h]
      first
        | exact settles_withValue _ _ _
        | exact settles_withAddress _ _ _
        | exact settles_storeByte _ _ _
        | exact settles_modifyByte _ _ _ _
        | exact settles_next _
    | cases h

end Sys2Proof.Machine
end

