-- ==== Sys2Proof/Laws/PerInstr.lean ====
section
/-! SUPPORT. Family EncodedLength: an instruction's encoding has its length (R82) and the instruction is
well formed (R84, R86), one lemma per constructor. -/

namespace Sys2Proof.Laws

/-- The encoding is as long as the format says, and the Operation is one the table can produce. -/
def EncodedLength.Statement (i : Instr) : Prop := (encode i).length = i.length ∧ i.WellFormed

theorem EncodedLength.ldaImm (op8 : Byte) : EncodedLength.Statement (.ldaImm op8) := ⟨rfl, rfl⟩
theorem EncodedLength.ldaZp (op8 : Byte) : EncodedLength.Statement (.ldaZp op8) := ⟨rfl, rfl⟩
theorem EncodedLength.ldaZpx (op8 : Byte) : EncodedLength.Statement (.ldaZpx op8) := ⟨rfl, rfl⟩
theorem EncodedLength.ldaAbs (op16 : Word) : EncodedLength.Statement (.ldaAbs op16) := ⟨rfl, rfl⟩
theorem EncodedLength.ldaAbsx (op16 : Word) : EncodedLength.Statement (.ldaAbsx op16) := ⟨rfl, rfl⟩
theorem EncodedLength.ldaAbsy (op16 : Word) : EncodedLength.Statement (.ldaAbsy op16) := ⟨rfl, rfl⟩
theorem EncodedLength.ldaIndx (op8 : Byte) : EncodedLength.Statement (.ldaIndx op8) := ⟨rfl, rfl⟩
theorem EncodedLength.ldaIndy (op8 : Byte) : EncodedLength.Statement (.ldaIndy op8) := ⟨rfl, rfl⟩
theorem EncodedLength.ldxImm (op8 : Byte) : EncodedLength.Statement (.ldxImm op8) := ⟨rfl, rfl⟩
theorem EncodedLength.ldxZp (op8 : Byte) : EncodedLength.Statement (.ldxZp op8) := ⟨rfl, rfl⟩
theorem EncodedLength.ldxZpy (op8 : Byte) : EncodedLength.Statement (.ldxZpy op8) := ⟨rfl, rfl⟩
theorem EncodedLength.ldxAbs (op16 : Word) : EncodedLength.Statement (.ldxAbs op16) := ⟨rfl, rfl⟩
theorem EncodedLength.ldxAbsy (op16 : Word) : EncodedLength.Statement (.ldxAbsy op16) := ⟨rfl, rfl⟩
theorem EncodedLength.ldyImm (op8 : Byte) : EncodedLength.Statement (.ldyImm op8) := ⟨rfl, rfl⟩
theorem EncodedLength.ldyZp (op8 : Byte) : EncodedLength.Statement (.ldyZp op8) := ⟨rfl, rfl⟩
theorem EncodedLength.ldyZpx (op8 : Byte) : EncodedLength.Statement (.ldyZpx op8) := ⟨rfl, rfl⟩
theorem EncodedLength.ldyAbs (op16 : Word) : EncodedLength.Statement (.ldyAbs op16) := ⟨rfl, rfl⟩
theorem EncodedLength.ldyAbsx (op16 : Word) : EncodedLength.Statement (.ldyAbsx op16) := ⟨rfl, rfl⟩
theorem EncodedLength.staZp (op8 : Byte) : EncodedLength.Statement (.staZp op8) := ⟨rfl, rfl⟩
theorem EncodedLength.staZpx (op8 : Byte) : EncodedLength.Statement (.staZpx op8) := ⟨rfl, rfl⟩
theorem EncodedLength.staAbs (op16 : Word) : EncodedLength.Statement (.staAbs op16) := ⟨rfl, rfl⟩
theorem EncodedLength.staAbsx (op16 : Word) : EncodedLength.Statement (.staAbsx op16) := ⟨rfl, rfl⟩
theorem EncodedLength.staAbsy (op16 : Word) : EncodedLength.Statement (.staAbsy op16) := ⟨rfl, rfl⟩
theorem EncodedLength.staIndx (op8 : Byte) : EncodedLength.Statement (.staIndx op8) := ⟨rfl, rfl⟩
theorem EncodedLength.staIndy (op8 : Byte) : EncodedLength.Statement (.staIndy op8) := ⟨rfl, rfl⟩
theorem EncodedLength.stxZp (op8 : Byte) : EncodedLength.Statement (.stxZp op8) := ⟨rfl, rfl⟩
theorem EncodedLength.stxZpy (op8 : Byte) : EncodedLength.Statement (.stxZpy op8) := ⟨rfl, rfl⟩
theorem EncodedLength.stxAbs (op16 : Word) : EncodedLength.Statement (.stxAbs op16) := ⟨rfl, rfl⟩
theorem EncodedLength.styZp (op8 : Byte) : EncodedLength.Statement (.styZp op8) := ⟨rfl, rfl⟩
theorem EncodedLength.styZpx (op8 : Byte) : EncodedLength.Statement (.styZpx op8) := ⟨rfl, rfl⟩
theorem EncodedLength.styAbs (op16 : Word) : EncodedLength.Statement (.styAbs op16) := ⟨rfl, rfl⟩
theorem EncodedLength.tax : EncodedLength.Statement .tax := ⟨rfl, rfl⟩
theorem EncodedLength.tay : EncodedLength.Statement .tay := ⟨rfl, rfl⟩
theorem EncodedLength.txa : EncodedLength.Statement .txa := ⟨rfl, rfl⟩
theorem EncodedLength.tya : EncodedLength.Statement .tya := ⟨rfl, rfl⟩
theorem EncodedLength.tsx : EncodedLength.Statement .tsx := ⟨rfl, rfl⟩
theorem EncodedLength.txs : EncodedLength.Statement .txs := ⟨rfl, rfl⟩
theorem EncodedLength.adcImm (op8 : Byte) : EncodedLength.Statement (.adcImm op8) := ⟨rfl, rfl⟩
theorem EncodedLength.adcZp (op8 : Byte) : EncodedLength.Statement (.adcZp op8) := ⟨rfl, rfl⟩
theorem EncodedLength.adcZpx (op8 : Byte) : EncodedLength.Statement (.adcZpx op8) := ⟨rfl, rfl⟩
theorem EncodedLength.adcAbs (op16 : Word) : EncodedLength.Statement (.adcAbs op16) := ⟨rfl, rfl⟩
theorem EncodedLength.adcAbsx (op16 : Word) : EncodedLength.Statement (.adcAbsx op16) := ⟨rfl, rfl⟩
theorem EncodedLength.adcAbsy (op16 : Word) : EncodedLength.Statement (.adcAbsy op16) := ⟨rfl, rfl⟩
theorem EncodedLength.adcIndx (op8 : Byte) : EncodedLength.Statement (.adcIndx op8) := ⟨rfl, rfl⟩
theorem EncodedLength.adcIndy (op8 : Byte) : EncodedLength.Statement (.adcIndy op8) := ⟨rfl, rfl⟩
theorem EncodedLength.sbcImm (op8 : Byte) : EncodedLength.Statement (.sbcImm op8) := ⟨rfl, rfl⟩
theorem EncodedLength.sbcZp (op8 : Byte) : EncodedLength.Statement (.sbcZp op8) := ⟨rfl, rfl⟩
theorem EncodedLength.sbcZpx (op8 : Byte) : EncodedLength.Statement (.sbcZpx op8) := ⟨rfl, rfl⟩
theorem EncodedLength.sbcAbs (op16 : Word) : EncodedLength.Statement (.sbcAbs op16) := ⟨rfl, rfl⟩
theorem EncodedLength.sbcAbsx (op16 : Word) : EncodedLength.Statement (.sbcAbsx op16) := ⟨rfl, rfl⟩
theorem EncodedLength.sbcAbsy (op16 : Word) : EncodedLength.Statement (.sbcAbsy op16) := ⟨rfl, rfl⟩
theorem EncodedLength.sbcIndx (op8 : Byte) : EncodedLength.Statement (.sbcIndx op8) := ⟨rfl, rfl⟩
theorem EncodedLength.sbcIndy (op8 : Byte) : EncodedLength.Statement (.sbcIndy op8) := ⟨rfl, rfl⟩
theorem EncodedLength.andImm (op8 : Byte) : EncodedLength.Statement (.andImm op8) := ⟨rfl, rfl⟩
theorem EncodedLength.andZp (op8 : Byte) : EncodedLength.Statement (.andZp op8) := ⟨rfl, rfl⟩
theorem EncodedLength.andZpx (op8 : Byte) : EncodedLength.Statement (.andZpx op8) := ⟨rfl, rfl⟩
theorem EncodedLength.andAbs (op16 : Word) : EncodedLength.Statement (.andAbs op16) := ⟨rfl, rfl⟩
theorem EncodedLength.andAbsx (op16 : Word) : EncodedLength.Statement (.andAbsx op16) := ⟨rfl, rfl⟩
theorem EncodedLength.andAbsy (op16 : Word) : EncodedLength.Statement (.andAbsy op16) := ⟨rfl, rfl⟩
theorem EncodedLength.andIndx (op8 : Byte) : EncodedLength.Statement (.andIndx op8) := ⟨rfl, rfl⟩
theorem EncodedLength.andIndy (op8 : Byte) : EncodedLength.Statement (.andIndy op8) := ⟨rfl, rfl⟩
theorem EncodedLength.oraImm (op8 : Byte) : EncodedLength.Statement (.oraImm op8) := ⟨rfl, rfl⟩
theorem EncodedLength.oraZp (op8 : Byte) : EncodedLength.Statement (.oraZp op8) := ⟨rfl, rfl⟩
theorem EncodedLength.oraZpx (op8 : Byte) : EncodedLength.Statement (.oraZpx op8) := ⟨rfl, rfl⟩
theorem EncodedLength.oraAbs (op16 : Word) : EncodedLength.Statement (.oraAbs op16) := ⟨rfl, rfl⟩
theorem EncodedLength.oraAbsx (op16 : Word) : EncodedLength.Statement (.oraAbsx op16) := ⟨rfl, rfl⟩
theorem EncodedLength.oraAbsy (op16 : Word) : EncodedLength.Statement (.oraAbsy op16) := ⟨rfl, rfl⟩
theorem EncodedLength.oraIndx (op8 : Byte) : EncodedLength.Statement (.oraIndx op8) := ⟨rfl, rfl⟩
theorem EncodedLength.oraIndy (op8 : Byte) : EncodedLength.Statement (.oraIndy op8) := ⟨rfl, rfl⟩
theorem EncodedLength.eorImm (op8 : Byte) : EncodedLength.Statement (.eorImm op8) := ⟨rfl, rfl⟩
theorem EncodedLength.eorZp (op8 : Byte) : EncodedLength.Statement (.eorZp op8) := ⟨rfl, rfl⟩
theorem EncodedLength.eorZpx (op8 : Byte) : EncodedLength.Statement (.eorZpx op8) := ⟨rfl, rfl⟩
theorem EncodedLength.eorAbs (op16 : Word) : EncodedLength.Statement (.eorAbs op16) := ⟨rfl, rfl⟩
theorem EncodedLength.eorAbsx (op16 : Word) : EncodedLength.Statement (.eorAbsx op16) := ⟨rfl, rfl⟩
theorem EncodedLength.eorAbsy (op16 : Word) : EncodedLength.Statement (.eorAbsy op16) := ⟨rfl, rfl⟩
theorem EncodedLength.eorIndx (op8 : Byte) : EncodedLength.Statement (.eorIndx op8) := ⟨rfl, rfl⟩
theorem EncodedLength.eorIndy (op8 : Byte) : EncodedLength.Statement (.eorIndy op8) := ⟨rfl, rfl⟩
theorem EncodedLength.cmpImm (op8 : Byte) : EncodedLength.Statement (.cmpImm op8) := ⟨rfl, rfl⟩
theorem EncodedLength.cmpZp (op8 : Byte) : EncodedLength.Statement (.cmpZp op8) := ⟨rfl, rfl⟩
theorem EncodedLength.cmpZpx (op8 : Byte) : EncodedLength.Statement (.cmpZpx op8) := ⟨rfl, rfl⟩
theorem EncodedLength.cmpAbs (op16 : Word) : EncodedLength.Statement (.cmpAbs op16) := ⟨rfl, rfl⟩
theorem EncodedLength.cmpAbsx (op16 : Word) : EncodedLength.Statement (.cmpAbsx op16) := ⟨rfl, rfl⟩
theorem EncodedLength.cmpAbsy (op16 : Word) : EncodedLength.Statement (.cmpAbsy op16) := ⟨rfl, rfl⟩
theorem EncodedLength.cmpIndx (op8 : Byte) : EncodedLength.Statement (.cmpIndx op8) := ⟨rfl, rfl⟩
theorem EncodedLength.cmpIndy (op8 : Byte) : EncodedLength.Statement (.cmpIndy op8) := ⟨rfl, rfl⟩
theorem EncodedLength.cpxImm (op8 : Byte) : EncodedLength.Statement (.cpxImm op8) := ⟨rfl, rfl⟩
theorem EncodedLength.cpxZp (op8 : Byte) : EncodedLength.Statement (.cpxZp op8) := ⟨rfl, rfl⟩
theorem EncodedLength.cpxAbs (op16 : Word) : EncodedLength.Statement (.cpxAbs op16) := ⟨rfl, rfl⟩
theorem EncodedLength.cpyImm (op8 : Byte) : EncodedLength.Statement (.cpyImm op8) := ⟨rfl, rfl⟩
theorem EncodedLength.cpyZp (op8 : Byte) : EncodedLength.Statement (.cpyZp op8) := ⟨rfl, rfl⟩
theorem EncodedLength.cpyAbs (op16 : Word) : EncodedLength.Statement (.cpyAbs op16) := ⟨rfl, rfl⟩
theorem EncodedLength.bitZp (op8 : Byte) : EncodedLength.Statement (.bitZp op8) := ⟨rfl, rfl⟩
theorem EncodedLength.bitAbs (op16 : Word) : EncodedLength.Statement (.bitAbs op16) := ⟨rfl, rfl⟩
theorem EncodedLength.aslAcc : EncodedLength.Statement .aslAcc := ⟨rfl, rfl⟩
theorem EncodedLength.aslZp (op8 : Byte) : EncodedLength.Statement (.aslZp op8) := ⟨rfl, rfl⟩
theorem EncodedLength.aslZpx (op8 : Byte) : EncodedLength.Statement (.aslZpx op8) := ⟨rfl, rfl⟩
theorem EncodedLength.aslAbs (op16 : Word) : EncodedLength.Statement (.aslAbs op16) := ⟨rfl, rfl⟩
theorem EncodedLength.aslAbsx (op16 : Word) : EncodedLength.Statement (.aslAbsx op16) := ⟨rfl, rfl⟩
theorem EncodedLength.lsrAcc : EncodedLength.Statement .lsrAcc := ⟨rfl, rfl⟩
theorem EncodedLength.lsrZp (op8 : Byte) : EncodedLength.Statement (.lsrZp op8) := ⟨rfl, rfl⟩
theorem EncodedLength.lsrZpx (op8 : Byte) : EncodedLength.Statement (.lsrZpx op8) := ⟨rfl, rfl⟩
theorem EncodedLength.lsrAbs (op16 : Word) : EncodedLength.Statement (.lsrAbs op16) := ⟨rfl, rfl⟩
theorem EncodedLength.lsrAbsx (op16 : Word) : EncodedLength.Statement (.lsrAbsx op16) := ⟨rfl, rfl⟩
theorem EncodedLength.rolAcc : EncodedLength.Statement .rolAcc := ⟨rfl, rfl⟩
theorem EncodedLength.rolZp (op8 : Byte) : EncodedLength.Statement (.rolZp op8) := ⟨rfl, rfl⟩
theorem EncodedLength.rolZpx (op8 : Byte) : EncodedLength.Statement (.rolZpx op8) := ⟨rfl, rfl⟩
theorem EncodedLength.rolAbs (op16 : Word) : EncodedLength.Statement (.rolAbs op16) := ⟨rfl, rfl⟩
theorem EncodedLength.rolAbsx (op16 : Word) : EncodedLength.Statement (.rolAbsx op16) := ⟨rfl, rfl⟩
theorem EncodedLength.rorAcc : EncodedLength.Statement .rorAcc := ⟨rfl, rfl⟩
theorem EncodedLength.rorZp (op8 : Byte) : EncodedLength.Statement (.rorZp op8) := ⟨rfl, rfl⟩
theorem EncodedLength.rorZpx (op8 : Byte) : EncodedLength.Statement (.rorZpx op8) := ⟨rfl, rfl⟩
theorem EncodedLength.rorAbs (op16 : Word) : EncodedLength.Statement (.rorAbs op16) := ⟨rfl, rfl⟩
theorem EncodedLength.rorAbsx (op16 : Word) : EncodedLength.Statement (.rorAbsx op16) := ⟨rfl, rfl⟩
theorem EncodedLength.incZp (op8 : Byte) : EncodedLength.Statement (.incZp op8) := ⟨rfl, rfl⟩
theorem EncodedLength.incZpx (op8 : Byte) : EncodedLength.Statement (.incZpx op8) := ⟨rfl, rfl⟩
theorem EncodedLength.incAbs (op16 : Word) : EncodedLength.Statement (.incAbs op16) := ⟨rfl, rfl⟩
theorem EncodedLength.incAbsx (op16 : Word) : EncodedLength.Statement (.incAbsx op16) := ⟨rfl, rfl⟩
theorem EncodedLength.decZp (op8 : Byte) : EncodedLength.Statement (.decZp op8) := ⟨rfl, rfl⟩
theorem EncodedLength.decZpx (op8 : Byte) : EncodedLength.Statement (.decZpx op8) := ⟨rfl, rfl⟩
theorem EncodedLength.decAbs (op16 : Word) : EncodedLength.Statement (.decAbs op16) := ⟨rfl, rfl⟩
theorem EncodedLength.decAbsx (op16 : Word) : EncodedLength.Statement (.decAbsx op16) := ⟨rfl, rfl⟩
theorem EncodedLength.inx : EncodedLength.Statement .inx := ⟨rfl, rfl⟩
theorem EncodedLength.iny : EncodedLength.Statement .iny := ⟨rfl, rfl⟩
theorem EncodedLength.dex : EncodedLength.Statement .dex := ⟨rfl, rfl⟩
theorem EncodedLength.dey : EncodedLength.Statement .dey := ⟨rfl, rfl⟩
theorem EncodedLength.jmpAbs (op16 : Word) : EncodedLength.Statement (.jmpAbs op16) := ⟨rfl, rfl⟩
theorem EncodedLength.jmpInd (op16 : Word) : EncodedLength.Statement (.jmpInd op16) := ⟨rfl, rfl⟩
theorem EncodedLength.jsrAbs (op16 : Word) : EncodedLength.Statement (.jsrAbs op16) := ⟨rfl, rfl⟩
theorem EncodedLength.rts : EncodedLength.Statement .rts := ⟨rfl, rfl⟩
theorem EncodedLength.bccRel (op8 : Byte) : EncodedLength.Statement (.bccRel op8) := ⟨rfl, rfl⟩
theorem EncodedLength.bcsRel (op8 : Byte) : EncodedLength.Statement (.bcsRel op8) := ⟨rfl, rfl⟩
theorem EncodedLength.beqRel (op8 : Byte) : EncodedLength.Statement (.beqRel op8) := ⟨rfl, rfl⟩
theorem EncodedLength.bneRel (op8 : Byte) : EncodedLength.Statement (.bneRel op8) := ⟨rfl, rfl⟩
theorem EncodedLength.bmiRel (op8 : Byte) : EncodedLength.Statement (.bmiRel op8) := ⟨rfl, rfl⟩
theorem EncodedLength.bplRel (op8 : Byte) : EncodedLength.Statement (.bplRel op8) := ⟨rfl, rfl⟩
theorem EncodedLength.bvcRel (op8 : Byte) : EncodedLength.Statement (.bvcRel op8) := ⟨rfl, rfl⟩
theorem EncodedLength.bvsRel (op8 : Byte) : EncodedLength.Statement (.bvsRel op8) := ⟨rfl, rfl⟩
theorem EncodedLength.pha : EncodedLength.Statement .pha := ⟨rfl, rfl⟩
theorem EncodedLength.php : EncodedLength.Statement .php := ⟨rfl, rfl⟩
theorem EncodedLength.pla : EncodedLength.Statement .pla := ⟨rfl, rfl⟩
theorem EncodedLength.plp : EncodedLength.Statement .plp := ⟨rfl, rfl⟩
theorem EncodedLength.clc : EncodedLength.Statement .clc := ⟨rfl, rfl⟩
theorem EncodedLength.sec : EncodedLength.Statement .sec := ⟨rfl, rfl⟩
theorem EncodedLength.cli : EncodedLength.Statement .cli := ⟨rfl, rfl⟩
theorem EncodedLength.sei : EncodedLength.Statement .sei := ⟨rfl, rfl⟩
theorem EncodedLength.cld : EncodedLength.Statement .cld := ⟨rfl, rfl⟩
theorem EncodedLength.sed : EncodedLength.Statement .sed := ⟨rfl, rfl⟩
theorem EncodedLength.clv : EncodedLength.Statement .clv := ⟨rfl, rfl⟩
theorem EncodedLength.nop : EncodedLength.Statement .nop := ⟨rfl, rfl⟩
theorem EncodedLength.rti : EncodedLength.Statement .rti := ⟨rfl, rfl⟩
theorem EncodedLength.brk : EncodedLength.Statement .brk := ⟨rfl, rfl⟩

end Sys2Proof.Laws
end

