-- ==== Sys2Proof/Laws/Rules.lean ====
section
/-! SUPPORT. From a mnemonic to its rule and its encodings: what the four rule shapes of
Sys2Proof/Safety.lean and `EncodedAs` rest on, so that a proof about a mnemonic splits no instruction. -/

namespace Sys2Proof

/-- Every instruction is well formed. -/
theorem Instr.wellFormed (i : Instr) : i.WellFormed := by cases i <;> rfl

/-- The operand's kind is the one R84 assigns. -/
theorem Instr.operand_kind (i : Instr) : i.operand.kind = i.mnemonic.kindIn i.format := by
  have h := i.wellFormed
  simp only [Instr.WellFormed, Operation.wf, Bool.and_eq_true, Operation.kindOk, beq_iff_eq] at h
  exact h.2

/-- The format is one the mnemonic has a row for. -/
theorem Instr.format_mem (i : Instr) : i.format ∈ i.mnemonic.formats := by
  have h := i.wellFormed
  simp only [Instr.WellFormed, Operation.wf, Bool.and_eq_true, Operation.hasRow, List.contains_iff_mem]
    at h
  exact h.1

/-- A mnemonic whose every format has kind Value has a Value operand. -/
theorem Instr.operand_value {m : Mnemonic} (h : ∀ f ∈ m.formats, m.kindIn f = .value) {i : Instr}
    (hi : i.mnemonic = m) : ∃ src, i.operand = .value src := by
  have hk := i.operand_kind.trans (hi ▸ h _ (hi ▸ i.format_mem))
  cases ho : i.operand <;> simp_all [Operand.kind]

/-- A mnemonic whose every format but ACC has kind Location has a Location operand outside ACC. -/
theorem Instr.operand_location {m : Mnemonic} (h : ∀ f ∈ m.formats, f ≠ .acc → m.kindIn f = .location)
    {i : Instr} (hi : i.mnemonic = m) (hf : i.format ≠ .acc) : ∃ mode, i.operand = .location mode := by
  have hk := i.operand_kind.trans (hi ▸ h _ (hi ▸ i.format_mem) hf)
  cases ho : i.operand <;> simp_all [Operand.kind]

/-- The mnemonic and the format of the instructions a template builds. -/
def Template.view : Template → Mnemonic × Format
  | .implied i => (i.mnemonic, i.format)
  | .withByte f => ((f 0x00#8).mnemonic, (f 0x00#8).format)
  | .withWord f => ((f 0x0000#16).mnemonic, (f 0x0000#16).format)

/-- A template's mnemonic and format do not depend on the operand. -/
def Template.Uniform : Template → Prop
  | .implied _ => True
  | .withByte f => ∀ b, (f b).mnemonic = (f 0x00#8).mnemonic ∧ (f b).format = (f 0x00#8).format
  | .withWord f => ∀ w, (f w).mnemonic = (f 0x0000#16).mnemonic ∧ (f w).format = (f 0x0000#16).format

set_option maxRecDepth 4000 in
/-- The opcode byte alone fixes mnemonic and format (R82). -/
theorem opcodeTable_uniform : ∀ row ∈ opcodeTable, row.2.Uniform := by
  simp only [opcodeTable, loadStoreRows, aluRows, shiftIncDecRows, controlFlowRows, stackFlagsRows,
    List.cons_append, List.nil_append]
  repeat refine List.forall_mem_cons.mpr ⟨by first | exact fun _ => ⟨rfl, rfl⟩ | exact trivial, ?_⟩
  exact fun _ h => absurd h List.not_mem_nil

set_option maxRecDepth 4000 in
/-- The opcode byte of an instruction finds a template of its mnemonic and format. -/
theorem lookup_encode (i : Instr) : ∃ opc t, (encode i).head? = some opc ∧ lookup opc = some t ∧
    t.view = (i.mnemonic, i.format) := by
  cases i <;> exact ⟨_, _, rfl, rfl, rfl⟩

namespace Machine

/-- A row of R86, from the rows of the opcode table that have the mnemonic. -/
theorem encodedAs_of_rows {m : Mnemonic} {rows : List (Byte × Format)}
    (h : rows.Perm ((opcodeTable.filter (·.2.view.1 = m)).map fun row => (row.1, row.2.view.2)))
    (hl : ∀ row ∈ rows, ∃ t, lookup row.1 = some t ∧ t.view = (m, row.2)) : EncodedAs m rows := by
  constructor
  · intro row hr b1 b2
    obtain ⟨t, ht, hv⟩ := hl row hr
    have hu := opcodeTable_uniform _ (mem_of_findRow ht)
    cases t with
    | implied i =>
      simp only [Template.view, Prod.mk.injEq] at hv
      exact ⟨i, [b1, b2], by simp [decode, ht], hv⟩
    | withByte f =>
      simp only [Template.view, Prod.mk.injEq] at hv
      exact ⟨f b1, [b2], by simp [decode, ht], (hu b1).1.trans hv.1, (hu b1).2.trans hv.2⟩
    | withWord f =>
      simp only [Template.view, Prod.mk.injEq] at hv
      exact ⟨f (mkWord b2 b1), [], by simp [decode, ht], (hu _).1.trans hv.1, (hu _).2.trans hv.2⟩
  · rintro i rfl
    obtain ⟨opc, t, h1, h2, h3⟩ := lookup_encode i
    refine ⟨(opc, t.view.2), h.symm.subset (List.mem_map.mpr ⟨(opc, t), ?_, rfl⟩), by simp [h3], h1⟩
    exact List.mem_filter.mpr ⟨mem_of_findRow h2, by simp [h3]⟩

/-- A mnemonic with a Value operand runs its rule on that operand. -/
theorem exec_value {m : Mnemonic} {P : ValueSource → State → StepResult}
    (hk : ∀ f ∈ m.formats, m.kindIn f = .value)
    (hP : ∀ src s, performOf ⟨m, .value src⟩ s = some (P src s)) {i : Instr} (hi : i.mnemonic = m)
    (s : State) : ∃ src, i.operand = .value src ∧ exec i s = P src s := by
  obtain ⟨src, h⟩ := Instr.operand_value hk hi
  exact ⟨src, h, exec_of_operation (show i.operation = ⟨m, .value src⟩ from by rw [← hi, ← h]; rfl)
    (hP src s)⟩

/-- A mnemonic with a Location operand runs its rule on that operand. -/
theorem exec_location {m : Mnemonic} {P : AddrMode → State → StepResult}
    (hk : ∀ f ∈ m.formats, f ≠ .acc → m.kindIn f = .location)
    (hP : ∀ mode s, performOf ⟨m, .location mode⟩ s = some (P mode s)) {i : Instr}
    (hi : i.mnemonic = m) (hf : i.format ≠ .acc) (s : State) :
    ∃ mode, i.operand = .location mode ∧ exec i s = P mode s := by
  obtain ⟨mode, h⟩ := Instr.operand_location hk hi hf
  exact ⟨mode, h, exec_of_operation (show i.operation = ⟨m, .location mode⟩ from by rw [← hi, ← h]; rfl)
    (hP mode s)⟩

theorem format_ne_acc {m : Mnemonic} (h : .acc ∉ m.formats) {i : Instr} (hi : i.mnemonic = m) :
    i.format ≠ .acc := fun hf => h (hf ▸ hi ▸ i.format_mem)

/-- A value instruction's shape gives its rule. -/
theorem valueRule_of {m : Mnemonic} {eff : State → Byte → State}
    (hk : ∀ f ∈ m.formats, m.kindIn f = .value)
    (hP : ∀ src s, performOf ⟨m, .value src⟩ s = some (withValue src s (eff s))) : ValueRule m eff := by
  intro i s hi
  obtain ⟨src, ho, he⟩ := exec_value hk hP hi s
  refine ⟨src, ho, fun v hv => ?_, fun e hv => ?_⟩
  · rw [resolve_value_eq_ok] at hv; simp only [he, withValue, hv]
  · rw [resolve_value_eq_error] at hv; simp only [he, withValue, hv, raise]

/-- A jump's or branch's shape gives its rule. -/
theorem gotoRule_of {m : Mnemonic} {eff : State → Word → State}
    (hk : ∀ f ∈ m.formats, f ≠ .acc → m.kindIn f = .location) (ha : .acc ∉ m.formats)
    (hP : ∀ mode s, performOf ⟨m, .location mode⟩ s = some (withAddress mode s (eff s))) :
    GotoRule m eff := by
  intro i s hi
  obtain ⟨mode, ho, he⟩ := exec_location hk hP hi (format_ne_acc ha hi) s
  refine ⟨mode, ho, fun v hv => ?_, fun e hv => ?_⟩ <;> simp only [he, withAddress, hv, raise]

/-- A mnemonic with no indirect form has its effective address in every state. -/
theorem effectiveAddress_of_formats {m : Mnemonic} (hi : .ind ∉ m.formats) {i : Instr}
    (hm : i.mnemonic = m) {mode : AddrMode} (ho : i.operand = .location mode) (s : State) :
    ∃ ea, effectiveAddress mode s = .ok ea := by
  refine effectiveAddress_eq_ok (fun h => hi ?_) s
  rw [← hm, ← h]
  have hf : i.format = mode.format := by show i.operand.format = _; rw [ho]; rfl
  exact hf ▸ i.format_mem

/-- A store's shape gives its rule. -/
theorem storeRule_of {m : Mnemonic} {reg : State → Byte}
    (hk : ∀ f ∈ m.formats, f ≠ .acc → m.kindIn f = .location) (ha : .acc ∉ m.formats)
    (hn : .ind ∉ m.formats)
    (hP : ∀ mode s, performOf ⟨m, .location mode⟩ s = some (storeByte mode (reg s) s)) :
    StoreRule m reg := by
  intro i s hi
  obtain ⟨mode, ho, he⟩ := exec_location hk hP hi (format_ne_acc ha hi) s
  obtain ⟨ea, hv⟩ := effectiveAddress_of_formats hn hi ho s
  refine ⟨mode, ea, ho, hv, fun hm => ⟨poke s.mem ea (reg s), ?_, ?_⟩, fun hm => ?_⟩ <;>
    simp [storeByte, memWrite, raise, State.setMem, *]

/-- A read-modify-write's shape gives its rule. -/
theorem modifyRule_of {m : Mnemonic} {res : State → Byte → Byte} {fl : State → Byte → Flags}
    (hk : ∀ f ∈ m.formats, f ≠ .acc → m.kindIn f = .location) (hn : .ind ∉ m.formats)
    (hP : ∀ mode s, performOf ⟨m, .location mode⟩ s = some (modifyByte mode s (res s) (fl s))) :
    ModifyRule m res fl := by
  intro i s hi hf
  obtain ⟨mode, ho, he⟩ := exec_location hk hP hi hf s
  obtain ⟨ea, hv⟩ := effectiveAddress_of_formats hn hi ho s
  refine ⟨mode, ea, ho, hv, fun v hr => ?_, fun hm => ?_⟩
  · obtain ⟨hm, rfl⟩ := memRead_eq_ok.mp hr
    exact ⟨poke s.mem ea (res s (peek s.mem ea)), by simp [memWrite, hm],
      by simp [he, modifyByte, hv, memRead, hm, memWrite, State.setMem, State.setFlags]⟩
  · simp [modifyByte, memRead, raise, *]

end Machine
end Sys2Proof
end

