-- ==== Sys2Proof/Tests/Slice0.lean ====
section
/-! SUPPORT. The model's own tests: ill-formed Operations refused, every row of the opcode table decoded from
bytes written out from R86, single steps with the expected values of spec file 95, and for every
obligation with hypotheses a witness that meets them. -/

namespace Sys2Proof.Tests

open Machine

set_option maxRecDepth 8000

/-! ### Helpers -/

/-- Every flag false. -/
def clear : Flags := Flags.allFalse

/-- Running, every register zero, memory with nothing listed: the conventions of spec file 95. -/
def base : State := { State.powerOn [] with run := .running }

/-- `s` with PC at `pc`, the bytes there, and some cells set. -/
def boot (pc : Word) (bytes : List Byte) (cells : List (Word × Byte)) (s : State) : State :=
  { s with pc := pc, mem := cells.foldl (fun m c => poke m c.1 c.2) (pokeBytes s.mem pc bytes) }

/-- The six flags in the order of spec file 95, B false. -/
def nvdizc (n v d i z c : Bool) : Flags := { n := n, v := v, d := d, i := i, z := z, c := c, b := false }

/-- What a function sees of the next state. -/
def after {α : Type} (r : StepResult) (f : State → α) : Option α :=
  match r with
  | .next t => some (f t)
  | .fault _ => none
  | .refused _ => none

/-- The fault answered, if one is. -/
def faultOf (r : StepResult) : Option Fault :=
  match r with
  | .next _ => none
  | .fault e => some e
  | .refused _ => none

/-- The bytes decode to the instruction, with none left. -/
def decodes (bytes : List Byte) (i : Instr) : Bool :=
  match decode bytes with
  | .ok (j, rest) => j == i && rest.isEmpty
  | .error _ => false

/-- The bytes are rejected with this error. -/
def rejects (bytes : List Byte) (e : DecodeError) : Bool :=
  match decode bytes with
  | .ok _ => false
  | .error d => d == e

/-! ### Well-formedness: each check refuses an ill-formed Operation -/

/-- STA has no immediate form (R86), and its kind is Location (R84). -/
theorem test_illformed_sta_immediate :
    Operation.hasRow ⟨.sta, .value (.imm 0x05#8)⟩ = false ∧
    Operation.kindOk ⟨.sta, .value (.imm 0x05#8)⟩ = false := by decide

/-- LDA has a row in format ZP, but its kind is Value, not Location (R84). -/
theorem test_illformed_lda_location :
    Operation.hasRow ⟨.lda, .location (.zp 0x01#8)⟩ = true ∧
    Operation.kindOk ⟨.lda, .location (.zp 0x01#8)⟩ = false ∧
    Operation.wf ⟨.lda, .location (.zp 0x01#8)⟩ = false := by decide

/-- BIT has no immediate form (R86). -/
theorem test_illformed_bit_immediate :
    Operation.kindOk ⟨.bit, .value (.imm 0x00#8)⟩ = true ∧
    Operation.wf ⟨.bit, .value (.imm 0x00#8)⟩ = false := by decide

/-- INC has no accumulator form, LDX no X-indexed form and JSR no indirect form (R86). -/
theorem test_illformed_other_forms :
    Operation.wf ⟨.inc, .accumulator⟩ = false ∧
    Operation.wf ⟨.ldx, .value (.mem (.zpx 0x10#8))⟩ = false ∧
    Operation.wf ⟨.jsr, .location (.ind 0x0200#16)⟩ = false := by decide

/-! ### Decoding: every row of R86, its bytes written out -/

/-- R86, the rows LDA. -/
theorem test_decode_lda :
    decodes [0xA9#8, 0x9C#8] (.ldaImm 0x9C#8) ∧
    decodes [0xA5#8, 0x9C#8] (.ldaZp 0x9C#8) ∧
    decodes [0xB5#8, 0x9C#8] (.ldaZpx 0x9C#8) ∧
    decodes [0xAD#8, 0x34#8, 0x12#8] (.ldaAbs 0x1234#16) ∧
    decodes [0xBD#8, 0x34#8, 0x12#8] (.ldaAbsx 0x1234#16) ∧
    decodes [0xB9#8, 0x34#8, 0x12#8] (.ldaAbsy 0x1234#16) ∧
    decodes [0xA1#8, 0x9C#8] (.ldaIndx 0x9C#8) ∧
    decodes [0xB1#8, 0x9C#8] (.ldaIndy 0x9C#8) := by
  decide

/-- R86, the rows LDX, LDY. -/
theorem test_decode_ldx_ldy :
    decodes [0xA2#8, 0x9C#8] (.ldxImm 0x9C#8) ∧
    decodes [0xA6#8, 0x9C#8] (.ldxZp 0x9C#8) ∧
    decodes [0xB6#8, 0x9C#8] (.ldxZpy 0x9C#8) ∧
    decodes [0xAE#8, 0x34#8, 0x12#8] (.ldxAbs 0x1234#16) ∧
    decodes [0xBE#8, 0x34#8, 0x12#8] (.ldxAbsy 0x1234#16) ∧
    decodes [0xA0#8, 0x9C#8] (.ldyImm 0x9C#8) ∧
    decodes [0xA4#8, 0x9C#8] (.ldyZp 0x9C#8) ∧
    decodes [0xB4#8, 0x9C#8] (.ldyZpx 0x9C#8) ∧
    decodes [0xAC#8, 0x34#8, 0x12#8] (.ldyAbs 0x1234#16) ∧
    decodes [0xBC#8, 0x34#8, 0x12#8] (.ldyAbsx 0x1234#16) := by
  decide

/-- R86, the rows STA, STX, STY. -/
theorem test_decode_stores :
    decodes [0x85#8, 0x9C#8] (.staZp 0x9C#8) ∧
    decodes [0x95#8, 0x9C#8] (.staZpx 0x9C#8) ∧
    decodes [0x8D#8, 0x34#8, 0x12#8] (.staAbs 0x1234#16) ∧
    decodes [0x9D#8, 0x34#8, 0x12#8] (.staAbsx 0x1234#16) ∧
    decodes [0x99#8, 0x34#8, 0x12#8] (.staAbsy 0x1234#16) ∧
    decodes [0x81#8, 0x9C#8] (.staIndx 0x9C#8) ∧
    decodes [0x91#8, 0x9C#8] (.staIndy 0x9C#8) ∧
    decodes [0x86#8, 0x9C#8] (.stxZp 0x9C#8) ∧
    decodes [0x96#8, 0x9C#8] (.stxZpy 0x9C#8) ∧
    decodes [0x8E#8, 0x34#8, 0x12#8] (.stxAbs 0x1234#16) ∧
    decodes [0x84#8, 0x9C#8] (.styZp 0x9C#8) ∧
    decodes [0x94#8, 0x9C#8] (.styZpx 0x9C#8) ∧
    decodes [0x8C#8, 0x34#8, 0x12#8] (.styAbs 0x1234#16) := by
  decide

/-- R86, the rows TAX, TAY, TXA, TYA, TSX, TXS. -/
theorem test_decode_transfers :
    decodes [0xAA#8] .tax ∧
    decodes [0xA8#8] .tay ∧
    decodes [0x8A#8] .txa ∧
    decodes [0x98#8] .tya ∧
    decodes [0xBA#8] .tsx ∧
    decodes [0x9A#8] .txs := by
  decide

/-- R86, the rows ADC. -/
theorem test_decode_adc :
    decodes [0x69#8, 0x9C#8] (.adcImm 0x9C#8) ∧
    decodes [0x65#8, 0x9C#8] (.adcZp 0x9C#8) ∧
    decodes [0x75#8, 0x9C#8] (.adcZpx 0x9C#8) ∧
    decodes [0x6D#8, 0x34#8, 0x12#8] (.adcAbs 0x1234#16) ∧
    decodes [0x7D#8, 0x34#8, 0x12#8] (.adcAbsx 0x1234#16) ∧
    decodes [0x79#8, 0x34#8, 0x12#8] (.adcAbsy 0x1234#16) ∧
    decodes [0x61#8, 0x9C#8] (.adcIndx 0x9C#8) ∧
    decodes [0x71#8, 0x9C#8] (.adcIndy 0x9C#8) := by
  decide

/-- R86, the rows SBC. -/
theorem test_decode_sbc :
    decodes [0xE9#8, 0x9C#8] (.sbcImm 0x9C#8) ∧
    decodes [0xE5#8, 0x9C#8] (.sbcZp 0x9C#8) ∧
    decodes [0xF5#8, 0x9C#8] (.sbcZpx 0x9C#8) ∧
    decodes [0xED#8, 0x34#8, 0x12#8] (.sbcAbs 0x1234#16) ∧
    decodes [0xFD#8, 0x34#8, 0x12#8] (.sbcAbsx 0x1234#16) ∧
    decodes [0xF9#8, 0x34#8, 0x12#8] (.sbcAbsy 0x1234#16) ∧
    decodes [0xE1#8, 0x9C#8] (.sbcIndx 0x9C#8) ∧
    decodes [0xF1#8, 0x9C#8] (.sbcIndy 0x9C#8) := by
  decide

/-- R86, the rows AND. -/
theorem test_decode_and :
    decodes [0x29#8, 0x9C#8] (.andImm 0x9C#8) ∧
    decodes [0x25#8, 0x9C#8] (.andZp 0x9C#8) ∧
    decodes [0x35#8, 0x9C#8] (.andZpx 0x9C#8) ∧
    decodes [0x2D#8, 0x34#8, 0x12#8] (.andAbs 0x1234#16) ∧
    decodes [0x3D#8, 0x34#8, 0x12#8] (.andAbsx 0x1234#16) ∧
    decodes [0x39#8, 0x34#8, 0x12#8] (.andAbsy 0x1234#16) ∧
    decodes [0x21#8, 0x9C#8] (.andIndx 0x9C#8) ∧
    decodes [0x31#8, 0x9C#8] (.andIndy 0x9C#8) := by
  decide

/-- R86, the rows ORA. -/
theorem test_decode_ora :
    decodes [0x09#8, 0x9C#8] (.oraImm 0x9C#8) ∧
    decodes [0x05#8, 0x9C#8] (.oraZp 0x9C#8) ∧
    decodes [0x15#8, 0x9C#8] (.oraZpx 0x9C#8) ∧
    decodes [0x0D#8, 0x34#8, 0x12#8] (.oraAbs 0x1234#16) ∧
    decodes [0x1D#8, 0x34#8, 0x12#8] (.oraAbsx 0x1234#16) ∧
    decodes [0x19#8, 0x34#8, 0x12#8] (.oraAbsy 0x1234#16) ∧
    decodes [0x01#8, 0x9C#8] (.oraIndx 0x9C#8) ∧
    decodes [0x11#8, 0x9C#8] (.oraIndy 0x9C#8) := by
  decide

/-- R86, the rows EOR. -/
theorem test_decode_eor :
    decodes [0x49#8, 0x9C#8] (.eorImm 0x9C#8) ∧
    decodes [0x45#8, 0x9C#8] (.eorZp 0x9C#8) ∧
    decodes [0x55#8, 0x9C#8] (.eorZpx 0x9C#8) ∧
    decodes [0x4D#8, 0x34#8, 0x12#8] (.eorAbs 0x1234#16) ∧
    decodes [0x5D#8, 0x34#8, 0x12#8] (.eorAbsx 0x1234#16) ∧
    decodes [0x59#8, 0x34#8, 0x12#8] (.eorAbsy 0x1234#16) ∧
    decodes [0x41#8, 0x9C#8] (.eorIndx 0x9C#8) ∧
    decodes [0x51#8, 0x9C#8] (.eorIndy 0x9C#8) := by
  decide

/-- R86, the rows CMP, CPX, CPY. -/
theorem test_decode_compares :
    decodes [0xC9#8, 0x9C#8] (.cmpImm 0x9C#8) ∧
    decodes [0xC5#8, 0x9C#8] (.cmpZp 0x9C#8) ∧
    decodes [0xD5#8, 0x9C#8] (.cmpZpx 0x9C#8) ∧
    decodes [0xCD#8, 0x34#8, 0x12#8] (.cmpAbs 0x1234#16) ∧
    decodes [0xDD#8, 0x34#8, 0x12#8] (.cmpAbsx 0x1234#16) ∧
    decodes [0xD9#8, 0x34#8, 0x12#8] (.cmpAbsy 0x1234#16) ∧
    decodes [0xC1#8, 0x9C#8] (.cmpIndx 0x9C#8) ∧
    decodes [0xD1#8, 0x9C#8] (.cmpIndy 0x9C#8) ∧
    decodes [0xE0#8, 0x9C#8] (.cpxImm 0x9C#8) ∧
    decodes [0xE4#8, 0x9C#8] (.cpxZp 0x9C#8) ∧
    decodes [0xEC#8, 0x34#8, 0x12#8] (.cpxAbs 0x1234#16) ∧
    decodes [0xC0#8, 0x9C#8] (.cpyImm 0x9C#8) ∧
    decodes [0xC4#8, 0x9C#8] (.cpyZp 0x9C#8) ∧
    decodes [0xCC#8, 0x34#8, 0x12#8] (.cpyAbs 0x1234#16) := by
  decide

/-- R86, the rows BIT. -/
theorem test_decode_bit :
    decodes [0x24#8, 0x9C#8] (.bitZp 0x9C#8) ∧
    decodes [0x2C#8, 0x34#8, 0x12#8] (.bitAbs 0x1234#16) := by
  decide

/-- R86, the rows ASL, LSR. -/
theorem test_decode_asl_lsr :
    decodes [0x0A#8] .aslAcc ∧
    decodes [0x06#8, 0x9C#8] (.aslZp 0x9C#8) ∧
    decodes [0x16#8, 0x9C#8] (.aslZpx 0x9C#8) ∧
    decodes [0x0E#8, 0x34#8, 0x12#8] (.aslAbs 0x1234#16) ∧
    decodes [0x1E#8, 0x34#8, 0x12#8] (.aslAbsx 0x1234#16) ∧
    decodes [0x4A#8] .lsrAcc ∧
    decodes [0x46#8, 0x9C#8] (.lsrZp 0x9C#8) ∧
    decodes [0x56#8, 0x9C#8] (.lsrZpx 0x9C#8) ∧
    decodes [0x4E#8, 0x34#8, 0x12#8] (.lsrAbs 0x1234#16) ∧
    decodes [0x5E#8, 0x34#8, 0x12#8] (.lsrAbsx 0x1234#16) := by
  decide

/-- R86, the rows ROL, ROR. -/
theorem test_decode_rol_ror :
    decodes [0x2A#8] .rolAcc ∧
    decodes [0x26#8, 0x9C#8] (.rolZp 0x9C#8) ∧
    decodes [0x36#8, 0x9C#8] (.rolZpx 0x9C#8) ∧
    decodes [0x2E#8, 0x34#8, 0x12#8] (.rolAbs 0x1234#16) ∧
    decodes [0x3E#8, 0x34#8, 0x12#8] (.rolAbsx 0x1234#16) ∧
    decodes [0x6A#8] .rorAcc ∧
    decodes [0x66#8, 0x9C#8] (.rorZp 0x9C#8) ∧
    decodes [0x76#8, 0x9C#8] (.rorZpx 0x9C#8) ∧
    decodes [0x6E#8, 0x34#8, 0x12#8] (.rorAbs 0x1234#16) ∧
    decodes [0x7E#8, 0x34#8, 0x12#8] (.rorAbsx 0x1234#16) := by
  decide

/-- R86, the rows INC, DEC, INX, INY, DEX, DEY. -/
theorem test_decode_inc_dec :
    decodes [0xE6#8, 0x9C#8] (.incZp 0x9C#8) ∧
    decodes [0xF6#8, 0x9C#8] (.incZpx 0x9C#8) ∧
    decodes [0xEE#8, 0x34#8, 0x12#8] (.incAbs 0x1234#16) ∧
    decodes [0xFE#8, 0x34#8, 0x12#8] (.incAbsx 0x1234#16) ∧
    decodes [0xC6#8, 0x9C#8] (.decZp 0x9C#8) ∧
    decodes [0xD6#8, 0x9C#8] (.decZpx 0x9C#8) ∧
    decodes [0xCE#8, 0x34#8, 0x12#8] (.decAbs 0x1234#16) ∧
    decodes [0xDE#8, 0x34#8, 0x12#8] (.decAbsx 0x1234#16) ∧
    decodes [0xE8#8] .inx ∧
    decodes [0xC8#8] .iny ∧
    decodes [0xCA#8] .dex ∧
    decodes [0x88#8] .dey := by
  decide

/-- R86, the rows JMP, JSR, RTS. -/
theorem test_decode_jumps :
    decodes [0x4C#8, 0x34#8, 0x12#8] (.jmpAbs 0x1234#16) ∧
    decodes [0x6C#8, 0x34#8, 0x12#8] (.jmpInd 0x1234#16) ∧
    decodes [0x20#8, 0x34#8, 0x12#8] (.jsrAbs 0x1234#16) ∧
    decodes [0x60#8] .rts := by
  decide

/-- R86, the rows BCC, BCS, BEQ, BNE, BMI, BPL, BVC, BVS. -/
theorem test_decode_branches :
    decodes [0x90#8, 0x9C#8] (.bccRel 0x9C#8) ∧
    decodes [0xB0#8, 0x9C#8] (.bcsRel 0x9C#8) ∧
    decodes [0xF0#8, 0x9C#8] (.beqRel 0x9C#8) ∧
    decodes [0xD0#8, 0x9C#8] (.bneRel 0x9C#8) ∧
    decodes [0x30#8, 0x9C#8] (.bmiRel 0x9C#8) ∧
    decodes [0x10#8, 0x9C#8] (.bplRel 0x9C#8) ∧
    decodes [0x50#8, 0x9C#8] (.bvcRel 0x9C#8) ∧
    decodes [0x70#8, 0x9C#8] (.bvsRel 0x9C#8) := by
  decide

/-- R86, the rows PHA, PHP, PLA, PLP, CLC, SEC, CLI, SEI, CLD, SED, CLV, NOP, RTI, BRK. -/
theorem test_decode_stack_flags_system :
    decodes [0x48#8] .pha ∧
    decodes [0x08#8] .php ∧
    decodes [0x68#8] .pla ∧
    decodes [0x28#8] .plp ∧
    decodes [0x18#8] .clc ∧
    decodes [0x38#8] .sec ∧
    decodes [0x58#8] .cli ∧
    decodes [0x78#8] .sei ∧
    decodes [0xD8#8] .cld ∧
    decodes [0xF8#8] .sed ∧
    decodes [0xB8#8] .clv ∧
    decodes [0xEA#8] .nop ∧
    decodes [0x40#8] .rti ∧
    decodes [0x00#8] .brk := by
  decide

/-- R87: bytes with no entry are rejected by name; a table word short of its operand is too. -/
theorem test_decode_rejects :
    rejects [0x02#8] (.unimplementedOpcode 0x02#8) ∧ rejects [0xFF#8, 0xFF#8] (.unimplementedOpcode 0xFF#8) ∧
    rejects [0x89#8, 0x00#8] (.unimplementedOpcode 0x89#8) ∧ rejects [0x1A#8] (.unimplementedOpcode 0x1A#8) ∧
    rejects [] .truncated ∧ rejects [0xA9#8] .truncated ∧ rejects [0xAD#8, 0x00#8] .truncated := by
  decide

/-- The opcode table's own numbering: first byte in the low bits, operand bytes beyond the word zero. -/
theorem test_decode_table_word :
    decodeTableWord 8 0xA9 = some (.ldaImm 0x00#8) ∧ decodeTableWord 16 0x05A9 = some (.ldaImm 0x05#8) ∧
    decodeTableWord 24 0x1234AD = some (.ldaAbs 0x1234#16) ∧ decodeTableWord 8 0x02 = none := by
  decide

/-! ### Fetching -/

/-- Spec file 95, V10. -/
theorem test_fetch_no_operand :
    after (step (boot 0x8000#16 [0xEA#8] []
      base))
      (fun t => (t.pc)) = some (0x8001#16) := by
  decide

/-- Spec file 95, V12. -/
theorem test_fetch_absolute :
    after (step (boot 0x8000#16 [0xAD#8, 0x00#8, 0x02#8] [(0x0200#16, 0x7E#8)]
      base))
      (fun t => (t.pc, t.a)) = some (0x8003#16, 0x7E#8) := by
  decide

/-- Spec file 95, V17. -/
theorem test_fetch_wraps :
    after (step (boot 0xFFFF#16 [0xA9#8, 0x05#8] []
      base))
      (fun t => (t.pc, t.a)) = some (0x0001#16, 0x05#8) := by
  decide

/-- Spec file 95, V18. -/
theorem test_fetch_operand_unmapped :
    faultOf (step (boot 0x07FE#16 [0xAD#8, 0x00#8, 0x02#8] []
      base)) =
    some (.addressSpaceViolation 0x0800#16) := by
  decide

/-- Spec file 95, V19. -/
theorem test_fetch_opcode_unmapped :
    faultOf (step (boot 0x0800#16 [0xEA#8] []
      base)) =
    some (.addressSpaceViolation 0x0800#16) := by
  decide

/-- Spec file 95, V13, V15. -/
theorem test_fetch_no_entry :
    faultOf (step (boot 0x8000#16 [0x02#8] []
      base)) =
    some (.unimplementedOpcode 0x02#8 0x8000#16) ∧
    faultOf (step (boot 0x8000#16 [0x89#8, 0x00#8] []
      base)) =
    some (.unimplementedOpcode 0x89#8 0x8000#16) := by
  decide

/-! ### Addressing modes -/

/-- Spec file 95, V40. -/
theorem test_ldaZp :
    after (step (boot 0x8000#16 [0xA5#8, 0x10#8] [(0x0010#16, 0x77#8)]
      base))
      (fun t => (t.a)) = some (0x77#8) := by
  decide

/-- Spec file 95, V41. -/
theorem test_ldaZpx_wraps :
    after (step (boot 0x8000#16 [0xB5#8, 0xFF#8] [(0x0001#16, 0x5A#8), (0x0101#16, 0xEE#8)]
      { base with x := 0x02#8 }))
      (fun t => (t.a)) = some (0x5A#8) := by
  decide

/-- Spec file 95, V43. -/
theorem test_ldaAbsx :
    after (step (boot 0x8000#16 [0xBD#8, 0xF0#8, 0x02#8] [(0x0310#16, 0x44#8)]
      { base with x := 0x20#8 }))
      (fun t => (t.a)) = some (0x44#8) := by
  decide

/-- Spec file 95, V44. -/
theorem test_ldaAbsy_wraps :
    after (step (boot 0x8000#16 [0xB9#8, 0xFF#8, 0xFF#8] [(0x0000#16, 0x99#8)]
      { base with y := 0x01#8 }))
      (fun t => (t.a)) = some (0x99#8) := by
  decide

/-- Spec file 95, V47. -/
theorem test_ldaIndx_pointer_at_page_end :
    after (step (boot 0x8000#16 [0xA1#8, 0xFE#8] [(0x00FF#16, 0x00#8), (0x0100#16, 0x03#8), (0x0000#16, 0x02#8), (0x0300#16, 0x11#8), (0x0200#16, 0x22#8)]
      { base with x := 0x01#8 }))
      (fun t => (t.a)) = some (0x11#8) := by
  decide

/-- Spec file 95, V48. -/
theorem test_ldaIndy_pointer_at_page_end :
    after (step (boot 0x8000#16 [0xB1#8, 0xFF#8] [(0x00FF#16, 0xF8#8), (0x0100#16, 0x02#8), (0x0000#16, 0x04#8), (0x0308#16, 0x66#8), (0x0508#16, 0x77#8)]
      { base with y := 0x10#8 }))
      (fun t => (t.a)) = some (0x66#8) := by
  decide

/-- Spec file 95, V51. -/
theorem test_ldaIndy_wraps :
    after (step (boot 0x8000#16 [0xB1#8, 0x10#8] [(0x0010#16, 0x01#8), (0x0011#16, 0xFF#8), (0x0000#16, 0x42#8)]
      { base with y := 0xFF#8 }))
      (fun t => (t.a)) = some (0x42#8) := by
  decide

/-- Spec file 95, V50. -/
theorem test_staIndy :
    after (step (boot 0x8000#16 [0x91#8, 0x10#8] [(0x0010#16, 0x03#8), (0x0011#16, 0x02#8)]
      { base with a := 0x5A#8, y := 0x01#8 }))
      (fun t => (peek t.mem 0x0204#16, t.a)) = some (0x5A#8, 0x5A#8) := by
  decide

/-- Spec file 95, V49. -/
theorem test_jmpInd_pointer_at_page_end :
    after (step (boot 0x8000#16 [0x6C#8, 0xFF#8, 0x02#8] [(0x02FF#16, 0x34#8), (0x0300#16, 0x82#8), (0x0200#16, 0x90#8)]
      base))
      (fun t => (t.pc)) = some (0x8234#16) := by
  decide

/-- Spec file 95, V52. -/
theorem test_bneRel_back :
    after (step (boot 0x8010#16 [0xD0#8, 0xFB#8] []
      base))
      (fun t => (t.pc)) = some (0x800D#16) := by
  decide

/-- Spec file 95, V53. -/
theorem test_beqRel_wraps :
    after (step (boot 0xFFFE#16 [0xF0#8, 0x10#8] []
      { base with flags := { clear with z := true } }))
      (fun t => (t.pc)) = some (0x0010#16) := by
  decide

/-! ### Loads, stores, transfers -/

/-- Spec file 95, V60, V61. -/
theorem test_ldaImm :
    after (step (boot 0x8000#16 [0xA9#8, 0x00#8] []
      { base with a := 0x55#8, flags := { clear with n := true } }))
      (fun t => (t.a, t.flags)) = some (0x00#8, nvdizc false false false false true false) ∧
    after (step (boot 0x8000#16 [0xA9#8, 0x80#8] []
      { base with flags := { clear with z := true } }))
      (fun t => (t.a, t.flags)) = some (0x80#8, nvdizc true false false false false false) := by
  decide

/-- Spec file 95, V62. -/
theorem test_ldxZpy :
    after (step (boot 0x8000#16 [0xB6#8, 0x10#8] [(0x0015#16, 0xFF#8)]
      { base with y := 0x05#8 }))
      (fun t => (t.x, t.flags)) = some (0xFF#8, nvdizc true false false false false false) := by
  decide

/-- Spec file 95, V63. -/
theorem test_ldyAbsx :
    after (step (boot 0x8000#16 [0xBC#8, 0x00#8, 0x03#8] [(0x03FF#16, 0x01#8)]
      { base with x := 0xFF#8 }))
      (fun t => (t.y, t.flags)) = some (0x01#8, nvdizc false false false false false false) := by
  decide

/-- Spec file 95, V64. -/
theorem test_staAbs_rom :
    after (step (boot 0x8000#16 [0x8D#8, 0x00#8, 0x81#8] []
      { base with a := 0x42#8 }))
      (fun t => (peek t.mem 0x8100#16, t.flags)) = some (0x42#8, nvdizc false false false false false false) := by
  decide

/-- Spec file 95, V65. -/
theorem test_staAbs_unmapped :
    faultOf (step (boot 0x8000#16 [0x8D#8, 0x00#8, 0x08#8] []
      { base with a := 0x42#8 })) =
    some (.addressSpaceViolation 0x0800#16) := by
  decide

/-- Spec file 95, V66. -/
theorem test_staAbsx_leaves_ram :
    faultOf (step (boot 0x8000#16 [0x9D#8, 0xFF#8, 0x07#8] []
      { base with a := 0x01#8, x := 0x01#8 })) =
    some (.addressSpaceViolation 0x0800#16) := by
  decide

/-- Spec file 95, V67. -/
theorem test_stxZpy_wraps :
    after (step (boot 0x8000#16 [0x96#8, 0xFF#8] []
      { base with x := 0x77#8, y := 0x02#8 }))
      (fun t => (peek t.mem 0x0001#16, peek t.mem 0x0101#16)) = some (0x77#8, 0x00#8) := by
  decide

/-- Spec file 95, V68. -/
theorem test_styAbs :
    after (step (boot 0x8000#16 [0x8C#8, 0x23#8, 0x01#8] []
      { base with y := 0x9A#8 }))
      (fun t => (peek t.mem 0x0123#16)) = some (0x9A#8) := by
  decide

/-- Spec file 95, V69. -/
theorem test_txs :
    after (step (boot 0x8000#16 [0x9A#8] []
      { base with x := 0x00#8, flags := { clear with n := true } }))
      (fun t => (t.sp, t.flags)) = some (0x00#8, nvdizc true false false false false false) := by
  decide

/-- Spec file 95, V69b. -/
theorem test_tsx :
    after (step (boot 0x8000#16 [0xBA#8] []
      { base with sp := 0x00#8, x := 0x09#8 }))
      (fun t => (t.x, t.flags)) = some (0x00#8, nvdizc false false false false true false) := by
  decide

/-- Spec file 95, V69c. -/
theorem test_tax :
    after (step (boot 0x8000#16 [0xAA#8] []
      { base with a := 0x00#8 }))
      (fun t => (t.x, t.a, t.flags)) = some (0x00#8, 0x00#8, nvdizc false false false false true false) := by
  decide

/-- R137, R138, R139, by hand from the rules. -/
theorem test_tay_txa_tya :
    after (step (boot 0x8000#16 [0xA8#8] [] { base with a := 0x80#8 })) (fun t => (t.y, t.flags)) =
      some (0x80#8, nvdizc true false false false false false) ∧
    after (step (boot 0x8000#16 [0x8A#8] [] { base with a := 0x01#8 })) (fun t => (t.a, t.flags)) =
      some (0x00#8, nvdizc false false false false true false) ∧
    after (step (boot 0x8000#16 [0x98#8] [] { base with y := 0x7F#8 })) (fun t => (t.a, t.flags)) =
      some (0x7F#8, nvdizc false false false false false false) := by
  decide

/-! ### Arithmetic and logic -/

/-- Spec file 95, V71, V74. -/
theorem test_adc_overflow :
    after (step (boot 0x8000#16 [0x69#8, 0x50#8] []
      { base with a := 0x50#8, flags := { clear with c := true } }))
      (fun t => (t.a, t.flags.c, t.flags.v, t.flags.z, t.flags.n)) = some (0xA1#8, false, true, false, true) ∧
    after (step (boot 0x8000#16 [0x69#8, 0x80#8] []
      { base with a := 0x80#8 }))
      (fun t => (t.a, t.flags.c, t.flags.v, t.flags.z, t.flags.n)) = some (0x00#8, true, true, true, false) := by
  decide

/-- Spec file 95, V75, V78. -/
theorem test_adc_carry_in :
    after (step (boot 0x8000#16 [0x69#8, 0xFF#8] []
      { base with a := 0xFF#8, flags := { clear with c := true } }))
      (fun t => (t.a, t.flags.c, t.flags.v, t.flags.z, t.flags.n)) = some (0xFF#8, true, false, false, true) ∧
    after (step (boot 0x8000#16 [0x69#8, 0x00#8] []
      { base with a := 0x7F#8, flags := { clear with c := true } }))
      (fun t => (t.a, t.flags.c, t.flags.v, t.flags.z, t.flags.n)) = some (0x80#8, false, true, false, true) := by
  decide

/-- Spec file 95, V82. -/
theorem test_adc_ignores_decimal :
    after (step (boot 0x8000#16 [0x69#8, 0x01#8] []
      { base with a := 0x09#8, flags := { clear with d := true } }))
      (fun t => (t.a, t.flags)) = some (0x0A#8, nvdizc false false true false false false) := by
  decide

/-- Spec file 95, V84, V85. -/
theorem test_sbc_borrow :
    after (step (boot 0x8000#16 [0xE9#8, 0xF0#8] []
      { base with a := 0x50#8, flags := { clear with c := true } }))
      (fun t => (t.a, t.flags.c, t.flags.v, t.flags.z, t.flags.n)) = some (0x60#8, false, false, false, false) ∧
    after (step (boot 0x8000#16 [0xE9#8, 0xB0#8] []
      { base with a := 0x50#8, flags := { clear with c := true } }))
      (fun t => (t.a, t.flags.c, t.flags.v, t.flags.z, t.flags.n)) = some (0xA0#8, false, true, false, true) := by
  decide

/-- Spec file 95, V87, V89. -/
theorem test_sbc_no_carry :
    after (step (boot 0x8000#16 [0xE9#8, 0x01#8] []
      { base with a := 0x80#8, flags := { clear with c := true } }))
      (fun t => (t.a, t.flags.c, t.flags.v, t.flags.z, t.flags.n)) = some (0x7F#8, true, true, false, false) ∧
    after (step (boot 0x8000#16 [0xE9#8, 0x05#8] []
      { base with a := 0x05#8 }))
      (fun t => (t.a, t.flags.c, t.flags.v, t.flags.z, t.flags.n)) = some (0xFF#8, false, false, false, true) := by
  decide

/-- Spec file 95, V93, V95. -/
theorem test_and :
    after (step (boot 0x8000#16 [0x29#8, 0x0F#8] []
      { base with a := 0xFF#8, flags := { clear with c := true, v := true } }))
      (fun t => (t.a, t.flags)) = some (0x0F#8, nvdizc false true false false false true) ∧
    after (step (boot 0x8000#16 [0x29#8, 0x80#8] []
      { base with a := 0xFF#8 }))
      (fun t => (t.a, t.flags)) = some (0x80#8, nvdizc true false false false false false) := by
  decide

/-- Spec file 95, V96. -/
theorem test_ora :
    after (step (boot 0x8000#16 [0x09#8, 0x00#8] []
      { base with a := 0x00#8 }))
      (fun t => (t.a, t.flags)) = some (0x00#8, nvdizc false false false false true false) := by
  decide

/-- Spec file 95, V97. -/
theorem test_eor :
    after (step (boot 0x8000#16 [0x45#8, 0x10#8] [(0x0010#16, 0x5A#8)]
      { base with a := 0x5A#8 }))
      (fun t => (t.a, t.flags)) = some (0x00#8, nvdizc false false false false true false) := by
  decide

/-- Spec file 95, V99, V100. -/
theorem test_cmp :
    after (step (boot 0x8000#16 [0xC9#8, 0x11#8] []
      { base with a := 0x10#8, flags := { clear with c := true, v := true } }))
      (fun t => (t.a, t.flags)) = some (0x10#8, nvdizc true true false false false false) ∧
    after (step (boot 0x8000#16 [0xC9#8, 0x01#8] []
      { base with a := 0x80#8 }))
      (fun t => (t.flags)) = some (nvdizc false false false false false true) := by
  decide

/-- Spec file 95, V101. -/
theorem test_cpx :
    after (step (boot 0x8000#16 [0xE4#8, 0x10#8] [(0x0010#16, 0x00#8)]
      { base with x := 0xFF#8 }))
      (fun t => (t.x, t.flags)) = some (0xFF#8, nvdizc true false false false false true) := by
  decide

/-- Spec file 95, V102. -/
theorem test_cpy :
    after (step (boot 0x8000#16 [0xC0#8, 0x80#8] []
      { base with y := 0x00#8 }))
      (fun t => (t.flags)) = some (nvdizc true false false false false false) := by
  decide

/-- Spec file 95, V103, V104. -/
theorem test_bit :
    after (step (boot 0x8000#16 [0x24#8, 0x10#8] [(0x0010#16, 0xC0#8)]
      { base with a := 0x3F#8 }))
      (fun t => (t.a, t.flags)) = some (0x3F#8, nvdizc true true false false true false) ∧
    after (step (boot 0x8000#16 [0x2C#8, 0x00#8, 0x02#8] [(0x0200#16, 0x01#8)]
      { base with a := 0xFF#8, flags := { clear with n := true, v := true, c := true } }))
      (fun t => (t.flags)) = some (nvdizc false false false false false true) := by
  decide

/-! ### Shifts, rotates, increments, decrements -/

/-- Spec file 95, V110, V111. -/
theorem test_asl :
    after (step (boot 0x8000#16 [0x0A#8] []
      { base with a := 0x80#8 }))
      (fun t => (t.a, t.flags)) = some (0x00#8, nvdizc false false false false true true) ∧
    after (step (boot 0x8000#16 [0x06#8, 0x10#8] [(0x0010#16, 0x40#8)]
      { base with a := 0x11#8 }))
      (fun t => (peek t.mem 0x0010#16, t.a, t.flags)) = some (0x80#8, 0x11#8, nvdizc true false false false false false) := by
  decide

/-- Spec file 95, V112, V113. -/
theorem test_lsr :
    after (step (boot 0x8000#16 [0x4A#8] []
      { base with a := 0x01#8, flags := { clear with n := true } }))
      (fun t => (t.a, t.flags)) = some (0x00#8, nvdizc false false false false true true) ∧
    after (step (boot 0x8000#16 [0x5E#8, 0x00#8, 0x02#8] [(0x0203#16, 0xFF#8)]
      { base with x := 0x03#8 }))
      (fun t => (peek t.mem 0x0203#16, t.flags)) = some (0x7F#8, nvdizc false false false false false true) := by
  decide

/-- Spec file 95, V114, V115. -/
theorem test_rol :
    after (step (boot 0x8000#16 [0x2A#8] []
      { base with a := 0x80#8 }))
      (fun t => (t.a, t.flags)) = some (0x00#8, nvdizc false false false false true true) ∧
    after (step (boot 0x8000#16 [0x26#8, 0x10#8] [(0x0010#16, 0x00#8)]
      { base with flags := { clear with c := true } }))
      (fun t => (peek t.mem 0x0010#16, t.flags)) = some (0x01#8, nvdizc false false false false false false) := by
  decide

/-- Spec file 95, V116, V117. -/
theorem test_ror :
    after (step (boot 0x8000#16 [0x6A#8] []
      { base with a := 0x01#8 }))
      (fun t => (t.a, t.flags)) = some (0x00#8, nvdizc false false false false true true) ∧
    after (step (boot 0x8000#16 [0x76#8, 0x10#8] [(0x0012#16, 0x00#8)]
      { base with x := 0x02#8, flags := { clear with c := true } }))
      (fun t => (peek t.mem 0x0012#16, t.flags)) = some (0x80#8, nvdizc true false false false false false) := by
  decide

/-- Spec file 95, V118, V119. -/
theorem test_inc :
    after (step (boot 0x8000#16 [0xE6#8, 0x10#8] [(0x0010#16, 0xFF#8)]
      base))
      (fun t => (peek t.mem 0x0010#16, t.flags)) = some (0x00#8, nvdizc false false false false true false) ∧
    after (step (boot 0x8000#16 [0xEE#8, 0x00#8, 0x02#8] [(0x0200#16, 0x7F#8)]
      base))
      (fun t => (peek t.mem 0x0200#16, t.flags)) = some (0x80#8, nvdizc true false false false false false) := by
  decide

/-- Spec file 95, V120. -/
theorem test_dec :
    after (step (boot 0x8000#16 [0xC6#8, 0x10#8] [(0x0010#16, 0x00#8)]
      base))
      (fun t => (peek t.mem 0x0010#16, t.flags)) = some (0xFF#8, nvdizc true false false false false false) := by
  decide

/-- Spec file 95, V121. -/
theorem test_dec_unmapped :
    faultOf (step (boot 0x8000#16 [0xCE#8, 0x00#8, 0x08#8] []
      base)) =
    some (.addressSpaceViolation 0x0800#16) := by
  decide

/-- Spec file 95, V122, V123. -/
theorem test_inx_iny :
    after (step (boot 0x8000#16 [0xE8#8] []
      { base with x := 0xFF#8 }))
      (fun t => (t.x, t.flags)) = some (0x00#8, nvdizc false false false false true false) ∧
    after (step (boot 0x8000#16 [0xC8#8] []
      { base with y := 0x7F#8 }))
      (fun t => (t.y, t.flags)) = some (0x80#8, nvdizc true false false false false false) := by
  decide

/-- Spec file 95, V124, V125. -/
theorem test_dex_dey :
    after (step (boot 0x8000#16 [0xCA#8] []
      { base with x := 0x00#8 }))
      (fun t => (t.x, t.flags)) = some (0xFF#8, nvdizc true false false false false false) ∧
    after (step (boot 0x8000#16 [0x88#8] []
      { base with y := 0x01#8 }))
      (fun t => (t.y, t.flags)) = some (0x00#8, nvdizc false false false false true false) := by
  decide

/-! ### Jumps, subroutines, branches -/

/-- Spec file 95, V132. -/
theorem test_jmpAbs_unmapped :
    after (step (boot 0x8000#16 [0x4C#8, 0x00#8, 0x10#8] []
      base))
      (fun t => (t.pc)) = some (0x1000#16) := by
  decide

/-- Spec file 95, V131. -/
theorem test_jmpInd :
    after (step (boot 0x8000#16 [0x6C#8, 0x00#8, 0x02#8] [(0x0200#16, 0x34#8), (0x0201#16, 0x82#8)]
      base))
      (fun t => (t.pc)) = some (0x8234#16) := by
  decide

/-- Spec file 95, V134. -/
theorem test_jsr_splits_word :
    after (step (boot 0x8000#16 [0x20#8, 0x10#8, 0x80#8] []
      { base with sp := 0x00#8 }))
      (fun t => (t.pc, t.sp, peek t.mem 0x0100#16, peek t.mem 0x01FF#16)) = some (0x8010#16, 0xFE#8, 0x80#8, 0x02#8) := by
  decide

/-- Spec file 95, V137. -/
theorem test_jsr_at_top :
    after (step (boot 0xFFFD#16 [0x20#8, 0x10#8, 0x00#8] []
      base))
      (fun t => (t.pc, t.sp, peek t.mem 0x0100#16, peek t.mem 0x01FF#16)) = some (0x0010#16, 0xFE#8, 0xFF#8, 0xFF#8) := by
  decide

/-- Spec file 95, V135, V136. -/
theorem test_rts :
    after (step (boot 0x8010#16 [0x60#8] [(0x01FE#16, 0x02#8), (0x01FF#16, 0x80#8)]
      { base with sp := 0xFD#8 }))
      (fun t => (t.pc, t.sp)) = some (0x8003#16, 0xFF#8) ∧
    after (step (boot 0x8000#16 [0x60#8] [(0x0100#16, 0xFF#8), (0x0101#16, 0xFF#8)]
      { base with sp := 0xFF#8 }))
      (fun t => (t.pc, t.sp)) = some (0x0000#16, 0x01#8) := by
  decide

/-- Spec file 95, V140, V141. -/
theorem test_bcc :
    after (step (boot 0x8000#16 [0x90#8, 0x06#8] []
      base))
      (fun t => (t.pc)) = some (0x8008#16) ∧
    after (step (boot 0x8000#16 [0x90#8, 0x06#8] []
      { base with flags := { clear with c := true } }))
      (fun t => (t.pc)) = some (0x8002#16) := by
  decide

/-- Spec file 95, V142, V143. -/
theorem test_bcs :
    after (step (boot 0x8000#16 [0xB0#8, 0x06#8] []
      { base with flags := { clear with c := true } }))
      (fun t => (t.pc)) = some (0x8008#16) ∧
    after (step (boot 0x8000#16 [0xB0#8, 0x06#8] []
      base))
      (fun t => (t.pc)) = some (0x8002#16) := by
  decide

/-- Spec file 95, V144, V145. -/
theorem test_beq :
    after (step (boot 0x8000#16 [0xF0#8, 0x06#8] []
      { base with flags := { clear with z := true } }))
      (fun t => (t.pc)) = some (0x8008#16) ∧
    after (step (boot 0x8000#16 [0xF0#8, 0x06#8] []
      base))
      (fun t => (t.pc)) = some (0x8002#16) := by
  decide

/-- Spec file 95, V146, V147. -/
theorem test_bne :
    after (step (boot 0x8000#16 [0xD0#8, 0x06#8] []
      base))
      (fun t => (t.pc)) = some (0x8008#16) ∧
    after (step (boot 0x8000#16 [0xD0#8, 0x06#8] []
      { base with flags := { clear with z := true } }))
      (fun t => (t.pc)) = some (0x8002#16) := by
  decide

/-- Spec file 95, V148, V149. -/
theorem test_bmi :
    after (step (boot 0x8000#16 [0x30#8, 0x06#8] []
      { base with flags := { clear with n := true } }))
      (fun t => (t.pc)) = some (0x8008#16) ∧
    after (step (boot 0x8000#16 [0x30#8, 0x06#8] []
      base))
      (fun t => (t.pc)) = some (0x8002#16) := by
  decide

/-- Spec file 95, V150, V151. -/
theorem test_bpl :
    after (step (boot 0x8000#16 [0x10#8, 0x06#8] []
      base))
      (fun t => (t.pc)) = some (0x8008#16) ∧
    after (step (boot 0x8000#16 [0x10#8, 0x06#8] []
      { base with flags := { clear with n := true } }))
      (fun t => (t.pc)) = some (0x8002#16) := by
  decide

/-- Spec file 95, V152, V153. -/
theorem test_bvc :
    after (step (boot 0x8000#16 [0x50#8, 0x06#8] []
      base))
      (fun t => (t.pc)) = some (0x8008#16) ∧
    after (step (boot 0x8000#16 [0x50#8, 0x06#8] []
      { base with flags := { clear with v := true } }))
      (fun t => (t.pc)) = some (0x8002#16) := by
  decide

/-- Spec file 95, V154, V155. -/
theorem test_bvs :
    after (step (boot 0x8000#16 [0x70#8, 0x06#8] []
      { base with flags := { clear with v := true } }))
      (fun t => (t.pc)) = some (0x8008#16) ∧
    after (step (boot 0x8000#16 [0x70#8, 0x06#8] []
      base))
      (fun t => (t.pc)) = some (0x8002#16) := by
  decide

/-- Spec file 95, V156, V157. -/
theorem test_branch_range :
    after (step (boot 0x8080#16 [0x10#8, 0x80#8] []
      base))
      (fun t => (t.pc)) = some (0x8002#16) ∧
    after (step (boot 0x8000#16 [0x30#8, 0x7F#8] []
      { base with flags := { clear with n := true } }))
      (fun t => (t.pc)) = some (0x8081#16) := by
  decide

/-! ### Stack, flags, system -/

/-- Spec file 95, V160, V161. -/
theorem test_pha :
    after (step (boot 0x8000#16 [0x48#8] []
      { base with a := 0x42#8, sp := 0xFF#8 }))
      (fun t => (peek t.mem 0x01FF#16, t.sp)) = some (0x42#8, 0xFE#8) ∧
    after (step (boot 0x8000#16 [0x48#8] []
      { base with a := 0x42#8, sp := 0x00#8 }))
      (fun t => (peek t.mem 0x0100#16, t.sp)) = some (0x42#8, 0xFF#8) := by
  decide

/-- Spec file 95, V163, V164. -/
theorem test_php :
    after (step (boot 0x8000#16 [0x08#8] []
      { base with sp := 0xFF#8, flags := { clear with n := true, v := true, d := true, i := true, z := true, c := true } }))
      (fun t => (peek t.mem 0x01FF#16)) = some (0xFF#8) ∧
    after (step (boot 0x8000#16 [0x08#8] []
      { base with sp := 0xFF#8, flags := { clear with b := true, c := true } }))
      (fun t => (peek t.mem 0x01FF#16)) = some (0x31#8) := by
  decide

/-- Spec file 95, V165, V166. -/
theorem test_pla :
    after (step (boot 0x8000#16 [0x68#8] [(0x01FF#16, 0x00#8)]
      { base with sp := 0xFE#8, a := 0x07#8 }))
      (fun t => (t.a, t.sp, t.flags)) = some (0x00#8, 0xFF#8, nvdizc false false false false true false) ∧
    after (step (boot 0x8000#16 [0x68#8] [(0x0100#16, 0x80#8)]
      { base with sp := 0xFF#8 }))
      (fun t => (t.a, t.sp, t.flags)) = some (0x80#8, 0x00#8, nvdizc true false false false false false) := by
  decide

/-- Spec file 95, V167, V168. -/
theorem test_plp :
    after (step (boot 0x8000#16 [0x28#8] [(0x01FF#16, 0xFF#8)]
      { base with sp := 0xFE#8 }))
      (fun t => (t.sp, t.flags, t.flags.b)) = some (0xFF#8, nvdizc true true true true true true, false) ∧
    after (step (boot 0x8000#16 [0x28#8] [(0x01FF#16, 0x00#8)]
      { base with sp := 0xFE#8, flags := { clear with n := true, v := true, d := true, i := true, z := true, c := true } }))
      (fun t => (t.flags)) = some (nvdizc false false false false false false) := by
  decide

/-- Spec file 95, V170. -/
theorem test_rti :
    after (step (boot 0x8000#16 [0x40#8] [(0x01FD#16, 0x81#8), (0x01FE#16, 0x34#8), (0x01FF#16, 0x82#8)]
      { base with sp := 0xFC#8 }))
      (fun t => (t.pc, t.sp, t.flags)) = some (0x8234#16, 0xFF#8, nvdizc true false false false false true) := by
  decide

/-- Spec file 95, V172, V171. -/
theorem test_clc_sec :
    after (step (boot 0x8000#16 [0x18#8] []
      { base with flags := { clear with c := true, z := true } }))
      (fun t => (t.flags)) = some (nvdizc false false false false true false) ∧
    after (step (boot 0x8000#16 [0x38#8] []
      base))
      (fun t => (t.flags)) = some (nvdizc false false false false false true) := by
  decide

/-- Spec file 95, V174, V173. -/
theorem test_cli_sei :
    after (step (boot 0x8000#16 [0x58#8] []
      { base with flags := { clear with i := true } }))
      (fun t => (t.flags)) = some (nvdizc false false false false false false) ∧
    after (step (boot 0x8000#16 [0x78#8] []
      base))
      (fun t => (t.flags)) = some (nvdizc false false false true false false) := by
  decide

/-- Spec file 95, V176, V175. -/
theorem test_cld_sed :
    after (step (boot 0x8000#16 [0xD8#8] []
      { base with flags := { clear with d := true } }))
      (fun t => (t.flags)) = some (nvdizc false false false false false false) ∧
    after (step (boot 0x8000#16 [0xF8#8] []
      base))
      (fun t => (t.flags)) = some (nvdizc false false true false false false) := by
  decide

/-- Spec file 95, V177, V178. -/
theorem test_clv_nop :
    after (step (boot 0x8000#16 [0xB8#8] []
      { base with flags := { clear with v := true, n := true } }))
      (fun t => (t.flags)) = some (nvdizc true false false false false false) ∧
    after (step (boot 0x8000#16 [0xEA#8] []
      { base with flags := { clear with n := true, c := true } }))
      (fun t => (t.pc, t.flags)) = some (0x8001#16, nvdizc true false false false false true) := by
  decide

/-- Spec file 95, V179. -/
theorem test_brk :
    after (step (boot 0x8000#16 [0x00#8] [(0xFFFE#16, 0x00#8), (0xFFFF#16, 0x90#8)]
      { base with sp := 0xFF#8 }))
      (fun t => (t.pc, t.sp, t.flags, t.flags.b, t.run)) = some (0x8001#16, 0xFF#8, nvdizc false false false false false false, false, .halted .brk) := by
  decide

/-! ### The host's side -/

/-- Spec file 95, P9, first case: from reset with nothing loaded, the first step is a BRK at 0x0000. -/
theorem test_reset_step :
    after (step State.reset) (fun t => (t.run, t.pc, t.a)) = some (.halted .brk, 0x0001#16, 0x00#8) := by
  decide

/-- Spec file 95, P1 and V35: a Load puts the bytes at 0x8000 and 0x8000 in the vector; start goes there. -/
theorem test_load_start :
    after (load [0xA9#8, 0x05#8, 0x00#8] (State.powerOn []))
      (fun t => (peek t.mem 0x8001#16, peek t.mem 0xFFFC#16, peek t.mem 0xFFFD#16)) =
      some (0x05#8, 0x00#8, 0x80#8) ∧
    after (start { State.powerOn [(0xFFFC, 0x34#8), (0xFFFD, 0x82#8)] with a := 0x07#8 })
      (fun t => (t.pc, t.a, t.run)) = some (0x8234#16, 0x00#8, .running) := by
  decide

/-- R237: after an unimplemented opcode the state is as before it; after a violation there is none. -/
theorem test_after_fault :
    (afterFault (.unimplementedOpcode 0x02#8 0x8000#16) { base with a := 0x42#8 }).map
      (fun t => (t.a, t.pc)) = some (0x42#8, 0x0000#16) ∧
    afterFault (.addressSpaceViolation 0x0800#16) base = none := by
  decide

/-- The instruction a table word names is the one the next step runs, also where PC points at no cell. -/
theorem test_withFetchWord :
    after (step (State.reset.withFetchWord 16 0x05A9)) (fun t => (t.a, t.pc)) = some (0x05#8, 0x0002#16) ∧
    after (step ({ base with pc := 0x1000#16 }.withFetchWord 8 0xE8)) (fun t => (t.x, t.pc)) =
      some (0x01#8, 0x8001#16) := by
  decide

/-! ### Witnesses: for each obligation with hypotheses, a concrete state and operands that meet them, one
conjunct or theorem per clause -/

/-- A state in mid-run: cells in RAM, ROM and at the top of memory, and flags set. -/
def mid : State :=
  { base with
    pc := 0x8003#16, sp := 0x00#8, a := 0x50#8, x := 0x01#8, y := 0xFF#8
    flags := nvdizc true false true true false true
    mem := [(0x0000, 0x34#8), (0x0010, 0xC0#8), (0x00FF, 0xF8#8), (0x0100, 0x02#8), (0x07FF, 0x77#8),
            (0x8003, 0xEA#8), (0xFFFC, 0x34#8), (0xFFFD, 0x82#8), (0xFFFF, 0xCD#8)] }

/-- The same, its run state Ready. -/
def midReady : State := { mid with run := .ready }

theorem witness_mid : Memory.wf mid.mem ∧ mid.run = .running ∧ midReady.run ≠ .running ∧
    Memory.wf midReady.mem := by decide

theorem witness_mid_inv : mid.Inv ∧ midReady.Inv := ⟨⟨by decide, rfl⟩, ⟨by decide, rfl⟩⟩

theorem witness_EncodeOfDecodeIsIdentity :
    decode [0x6C#8, 0xFF#8, 0x02#8, 0x77#8] = .ok (.jmpInd 0x02FF#16, [0x77#8]) := rfl

theorem witness_OpcodeBytesWithoutEntryEndTheRun :
    (let s := boot 0x8000#16 [0x02#8] [] base
     s.run = .running ∧ memRead s.mem s.pc = .ok 0x02#8 ∧ 0x02#8 ∈ noEntryOpcodes) ∧
    (let s := boot 0xFFFF#16 [0xFF#8] [] base
     s.run = .running ∧ memRead s.mem s.pc = .ok 0xFF#8 ∧ 0xFF#8 ∈ noEntryOpcodes) ∧
    mid.run = .running ∧ memRead mid.mem mid.pc = .ok 0xEA#8 ∧ 0xEA#8 ∉ noEntryOpcodes := by
  refine ⟨⟨rfl, rfl, ?_⟩, ⟨rfl, rfl, ?_⟩, rfl, rfl, ?_⟩ <;> decide

theorem witness_OpcodeFixesLengthAndOperandIsLowByteFirst :
    decode [0xEA#8, 0x34#8, 0x12#8] = .ok (.nop, [0x34#8, 0x12#8]) ∧ Instr.nop.length = 1 ∧
    0x02#8 ∈ noEntryOpcodes ∧ 0xFF#8 ∈ noEntryOpcodes ∧
    decode [0xA9#8, 0x34#8, 0x12#8] = .ok (.ldaImm 0x34#8, [0x12#8]) ∧ (Instr.ldaImm 0x34#8).length = 2 ∧
    decode [0xAD#8, 0x34#8, 0x12#8] = .ok (.ldaAbs 0x1234#16, []) ∧ (Instr.ldaAbs 0x1234#16).length = 3 :=
  ⟨rfl, rfl, by decide, by decide, rfl, rfl, rfl, rfl⟩

/-- PC so high that the operand byte lies at 0x0000. -/
theorem witness_StepRunsTheDecodedInstruction :
    let s := boot 0xFFFF#16 [0xA9#8, 0x05#8] [] base
    s.run = .running ∧ decode [0xA9#8, 0x05#8] = .ok (.ldaImm 0x05#8, []) ∧
    ∀ k < (Instr.ldaImm 0x05#8).length,
      memRead s.mem (s.pc + BitVec.ofNat 16 k) = .ok ([0xA9#8, 0x05#8].getD k 0x00#8) := by
  refine ⟨rfl, rfl, fun k hk => ?_⟩
  have h2 : k < 2 := hk
  rcases (by omega : k = 0 ∨ k = 1) with rfl | rfl <;> rfl

theorem witness_FetchFaultsInOrder :
    (let s := boot 0x0800#16 [] [] base
     s.run = .running ∧ mapped s.pc = false) ∧
    (let s := boot 0x07FF#16 [0xA9#8] [] base
     s.run = .running ∧ memRead s.mem s.pc = .ok ((encode (.ldaImm 0x05#8)).headD 0x00#8) ∧
     2 ≤ (Instr.ldaImm 0x05#8).length ∧ mapped (s.pc + 1#16) = false) ∧
    (let s := boot 0x07FE#16 [0xAD#8, 0x00#8] [] base
     s.run = .running ∧ memRead s.mem s.pc = .ok ((encode (.ldaAbs 0x0200#16)).headD 0x00#8) ∧
     (Instr.ldaAbs 0x0200#16).length = 3 ∧ mapped (s.pc + 1#16) = true ∧ mapped (s.pc + 2#16) = false) := by
  refine ⟨⟨rfl, ?_⟩, ⟨rfl, rfl, ?_, ?_⟩, rfl, rfl, rfl, ?_, ?_⟩ <;> decide

theorem witness_StoppedMachineStaysAsItIs :
    midReady.run ≠ .running ∧ { mid with run := .halted .brk }.run ≠ .running ∧
    { mid with run := .halted (.error (.unimplementedOpcode 0x02#8 0x8003#16)) }.run ≠ .running := by decide

theorem witness_OnlyBreakHaltsARunningMachine :
    (∃ t, step mid = .next t) ∧ mid.run = .running ∧ memRead mid.mem mid.pc ≠ .ok 0x00#8 ∧
    (let s := boot 0x8000#16 [0x00#8] [] base
     s.run = .running ∧ memRead s.mem s.pc = .ok 0x00#8 ∧ ∃ t, step s = .next t) :=
  ⟨⟨_, rfl⟩, rfl, nofun, rfl, rfl, _, rfl⟩

/-- Both ends of the hole: a fetch at 0x0800 and a read of 0x7FFF. -/
theorem witness_ViolationNamesAnUnmappedAddress :
    step (boot 0x0800#16 [] [] base) = .fault (.addressSpaceViolation 0x0800#16) ∧
    step (boot 0x8000#16 [0xAD#8, 0xFF#8, 0x7F#8] [] base) =
      .fault (.addressSpaceViolation 0x7FFF#16) := ⟨rfl, rfl⟩

theorem witness_WriteChangesOneCell :
    Memory.wf mid.mem ∧ (0x07FF#16).toNat ≤ 0x07FF ∧ 0x8000 ≤ (0x8000#16).toNat ∧
    (0x0800 ≤ (0x0800#16).toNat ∧ (0x0800#16).toNat ≤ 0x7FFF) ∧
    (0x0800 ≤ (0x7FFF#16).toNat ∧ (0x7FFF#16).toNat ≤ 0x7FFF) := by decide

/-- The Word that wraps from 0xFFFF to 0x0000. -/
theorem witness_WordJustWrittenReadsBack :
    Memory.wf mid.mem ∧ mapped 0xFFFF#16 = true ∧ mapped (0xFFFF#16 + 1#16) = true := by decide

/-- The Word that wraps from 0xFFFF to 0x0000, and the two edges of the hole. -/
theorem witness_WordAccessIsTwoByteAccesses :
    (mapped 0xFFFF#16 = true ∧ mapped (0xFFFF#16 + 1#16) = true) ∧
    mapped 0x7FFF#16 = false ∧ (mapped 0x07FF#16 = true ∧ mapped (0x07FF#16 + 1#16) = false) := by decide

/-- SP at both ends of its range, memory in canonical form. -/
theorem witness_stack_obligations :
    (Memory.wf mid.mem ∧ mid.sp = 0x00#8) ∧
    Memory.wf { mid with sp := 0xFF#8 }.mem ∧ { mid with sp := 0xFF#8 }.sp = 0xFF#8 := by decide

theorem witness_MemoriesThatReadAlikeAreEqual :
    Memory.wf mid.mem ∧ Memory.wf (poke (poke mid.mem 0x0300#16 0x11#8) 0x0300#16 0x00#8) ∧
    ∀ addr, memRead mid.mem addr = memRead (poke (poke mid.mem 0x0300#16 0x11#8) 0x0300#16 0x00#8) addr :=
  ⟨by decide, by decide, fun _ => rfl⟩

theorem witness_StepKeepsTheInvariant : mid.Inv ∧ ∃ t, step mid = .next t :=
  ⟨witness_mid_inv.1, _, rfl⟩

theorem witness_HostCallsKeepTheInvariant :
    midReady.Inv ∧ (∃ t, load [0xA9#8, 0x05#8, 0x00#8] midReady = .next t) ∧
    (∃ t, start midReady = .next t) ∧ ∃ t, startFrom 0x8002#16 midReady = .next t :=
  ⟨witness_mid_inv.2, ⟨_, rfl⟩, ⟨_, rfl⟩, _, rfl⟩

/-- The last of the 256 zero-page addresses. -/
theorem witness_DirectModesFormTheirAddress : 255 < 256 := by decide

/-- The three pointer modes: each with its pointer at the end of a page, and IND with an unmapped low and
an unmapped high byte. -/
theorem witness_PointerModesReadTheirPointer :
    (∃ lo hi, memRead mid.mem 0x00FF#16 = .ok lo ∧ memRead mid.mem (0x00FF#16 + 1#16) = .ok hi) ∧
    0x00FF#16 = BitVec.ofNat 16 (((0xFE#8).toNat + mid.x.toNat) % 256) ∧
    0x00FF#16 = BitVec.ofNat 16 (0xFF#8).toNat ∧
    (∃ lo hi, memRead mid.mem 0xFFFF#16 = .ok lo ∧ memRead mid.mem (0xFFFF#16 + 1#16) = .ok hi) ∧
    memRead mid.mem 0x7FFF#16 = .error (.addressSpaceViolation 0x7FFF#16) ∧
    (memRead mid.mem 0x07FF#16 = .ok 0x77#8 ∧
      memRead mid.mem (0x07FF#16 + 1#16) = .error (.addressSpaceViolation 0x0800#16)) :=
  ⟨⟨_, _, rfl, rfl⟩, rfl, rfl, ⟨_, _, rfl, rfl⟩, rfl, rfl, rfl⟩

/-- The premise of `ResetMeetsTheInvariant`: a memory to power on with. -/
theorem witness_ResetMeetsTheInvariant : Memory.wf [(0xFFFC, 0x34#8), (0xFFFD, 0x82#8)] := by decide

theorem witness_ResolveReturnsValueOrLocation :
    (effectiveAddress (.absx 0x07FE#16) mid = .ok 0x07FF#16 ∧ memRead mid.mem 0x07FF#16 = .ok 0x77#8) ∧
    (effectiveAddress (.abs 0x0800#16) mid = .ok 0x0800#16 ∧
      memRead mid.mem 0x0800#16 = .error (.addressSpaceViolation 0x0800#16)) ∧
    effectiveAddress (.ind 0x7FFF#16) mid = .error (.addressSpaceViolation 0x7FFF#16) :=
  ⟨⟨rfl, rfl⟩, ⟨rfl, rfl⟩, rfl⟩

theorem witness_ZeroPageStackAndRegisterFormsComplete :
    (Instr.stxZpy 0xFF#8).format ∈ [Format.imp, .acc, .imm, .zp, .zpx, .zpy, .rel] ∧
    ((Instr.jmpAbs 0x1000#16).mnemonic = .jmp ∧ (Instr.jmpAbs 0x1000#16).format = .abs) ∧
    ((Instr.jsrAbs 0x1000#16).mnemonic = .jsr ∧ (Instr.jsrAbs 0x1000#16).format = .abs) := by decide

/-- `ValueRule` for the mnemonics with an ABS form: an operand that resolves, at the last cell of RAM, and
one that faults, at the first address past it. -/
theorem witness_value_rules :
    resolve (.value (.mem (.abs 0x07FF#16))) mid = .ok (.value 0x77#8) ∧
    resolve (.value (.mem (.abs 0x0800#16))) mid = .error (.addressSpaceViolation 0x0800#16) ∧
    (∀ i ∈ [Instr.ldaAbs 0x07FF#16, .ldxAbs 0x07FF#16, .ldyAbs 0x07FF#16, .adcAbs 0x07FF#16,
        .sbcAbs 0x07FF#16, .andAbs 0x07FF#16, .oraAbs 0x07FF#16, .eorAbs 0x07FF#16, .cmpAbs 0x07FF#16,
        .cpxAbs 0x07FF#16, .cpyAbs 0x07FF#16, .bitAbs 0x07FF#16],
      i.operand = .value (.mem (.abs 0x07FF#16)) ∧
      i.mnemonic ∈ [Mnemonic.lda, .ldx, .ldy, .adc, .sbc, .and, .ora, .eor, .cmp, .cpx, .cpy, .bit]) ∧
    (Instr.ldaAbs 0x0800#16).operand = .value (.mem (.abs 0x0800#16)) := by
  refine ⟨rfl, rfl, ?_, rfl⟩
  decide

/-- The two clauses of V1's truth table: a sum past 127 and one within -128..127. -/
theorem witness_adc_sbc_overflow :
    ((0x50#8).toInt + (0x50#8).toInt + (true.toNat : Int) > 127) ∧
    ((0xFF#8).toInt + (0x01#8).toInt + (false.toNat : Int) = 0) ∧
    ((0x80#8).toInt - (0x01#8).toInt - (1 - (true.toNat : Int)) < -128) := by decide

theorem witness_ComparesSetCarryZeroNegative :
    (Mnemonic.cpx = .cpx ∧ (fun s : State => s.x) = (·.x)) ∧ (Instr.cpxZp 0x10#8).mnemonic = .cpx ∧
    resolve (.value (.mem (.zp 0x10#8))) mid = .ok (.value 0xC0#8) := ⟨⟨rfl, rfl⟩, rfl, rfl⟩

/-- `StoreRule`: the last cell of RAM and the first of ROM, the first unmapped address and the last. -/
theorem witness_StoresWriteTheirRegister :
    (Instr.staAbsx 0x07FE#16).operand = .location (.absx 0x07FE#16) ∧
    (effectiveAddress (.absx 0x07FE#16) mid = .ok 0x07FF#16 ∧ mapped 0x07FF#16 = true) ∧
    (Instr.staAbsx 0x07FF#16).operand = .location (.absx 0x07FF#16) ∧
    (effectiveAddress (.absx 0x07FF#16) mid = .ok 0x0800#16 ∧ mapped 0x0800#16 = false) ∧
    (Instr.stxAbs 0x8000#16).operand = .location (.abs 0x8000#16) ∧
    (Instr.styAbs 0x7FFF#16).operand = .location (.abs 0x7FFF#16) ∧
    (mapped 0x8000#16 = true ∧ mapped 0x7FFF#16 = false) := by
  refine ⟨rfl, ⟨rfl, ?_⟩, rfl, ⟨rfl, ?_⟩, rfl, rfl, ?_⟩ <;> decide

/-- `ModifyRule` for the six mnemonics with memory forms. -/
theorem witness_modify_rules :
    (∀ i ∈ [Instr.aslAbs 0x07FF#16, .lsrAbs 0x07FF#16, .rolAbs 0x07FF#16, .rorAbs 0x07FF#16,
        .incAbs 0x07FF#16, .decAbs 0x07FF#16],
      i.format ≠ .acc ∧ i.operand = .location (.abs 0x07FF#16)) ∧
    (effectiveAddress (.abs 0x07FF#16) mid = .ok 0x07FF#16 ∧ memRead mid.mem 0x07FF#16 = .ok 0x77#8) ∧
    (effectiveAddress (.abs 0x0800#16) mid = .ok 0x0800#16 ∧ mapped 0x0800#16 = false) := by
  refine ⟨?_, ⟨rfl, rfl⟩, rfl, ?_⟩ <;> decide

/-- `GotoRule` for JMP: a target that is mapped, one that is not, and an unmapped pointer. -/
theorem witness_JmpTakesTheEffectiveAddress :
    effectiveAddress (.abs 0x8005#16) mid = .ok 0x8005#16 ∧
    effectiveAddress (.abs 0x1000#16) mid = .ok 0x1000#16 ∧
    effectiveAddress (.ind 0xFFFC#16) mid = .ok 0x8234#16 ∧
    effectiveAddress (.ind 0x7FFF#16) mid = .error (.addressSpaceViolation 0x7FFF#16) := ⟨rfl, rfl, rfl, rfl⟩

/-- After a JSR, a state with its SP and memory but other registers. -/
theorem witness_RtsReturnsAfterJsr :
    ∃ t, exec (.jsrAbs 0x8010#16) mid = .next t ∧
      { t with a := 0x99#8, pc := 0x8020#16 }.sp = t.sp ∧ { t with a := 0x99#8, pc := 0x8020#16 }.mem = t.mem :=
  ⟨_, rfl, rfl, rfl⟩

theorem witness_PhaAndPhpPushOneByte :
    (Instr.pha = .pha ∧ (0x50#8) = mid.a) ∧
    (Instr.php = .php ∧ (0xBD#8).toNat = mid.flags.n.toNat * 128 + mid.flags.v.toNat * 64 + 32 + 16
      + mid.flags.d.toNat * 8 + mid.flags.i.toNat * 4 + mid.flags.z.toNat * 2 + mid.flags.c.toNat) := by
  decide

theorem witness_BrkHaltsAndDoesNothingElse :
    let s := boot 0x8000#16 [0x00#8] [] { mid with sp := 0x80#8 }
    s.run = .running ∧ memRead s.mem s.pc = .ok 0x00#8 := ⟨rfl, rfl⟩

/-- Instructions that meet each clause of the register frame and answer a next state. -/
theorem witness_UnwrittenRegistersAreKept :
    (∃ t, exec (.stxZp 0x10#8) mid = .next t) ∧ (Instr.stxZp 0x10#8).operation.writesA = false ∧
    (Instr.stxZp 0x10#8).operation.writesX = false ∧ (Instr.stxZp 0x10#8).operation.writesY = false ∧
    (Instr.stxZp 0x10#8).operation.writesSp = false ∧
    (Instr.stxZp 0x10#8).operation.transfersControl = false ∧ (Instr.stxZp 0x10#8).mnemonic ≠ .brk := by
  refine ⟨⟨_, rfl⟩, ?_⟩
  decide

theorem witness_UnwrittenFlagsAreKept :
    (∃ t, exec (.incZp 0x10#8) mid = .next t) ∧ Flag.c ∉ (Instr.incZp 0x10#8).mnemonic.flagsWritten := by
  refine ⟨⟨_, rfl⟩, ?_⟩
  decide

/-- A store, a push and a form that stores nothing. -/
theorem witness_UnstoredMemoryIsKept :
    Memory.wf mid.mem ∧
    (∃ t, exec (.staIndy 0xFF#8) mid = .next t) ∧
    storedAddrs (Instr.staIndy 0xFF#8).operation mid = [0x03F7#16] ∧
    (∃ t, exec (.jsrAbs 0x8010#16) mid = .next t) ∧
    storedAddrs (Instr.jsrAbs 0x8010#16).operation mid = [0x0100#16, 0x01FF#16] ∧
    (∃ t, exec (.cmpAbs 0x0010#16) mid = .next t) ∧
    storedAddrs (Instr.cmpAbs 0x0010#16).operation mid = [] :=
  ⟨by decide, ⟨_, rfl⟩, rfl, ⟨_, rfl⟩, rfl, ⟨_, rfl⟩, rfl⟩

theorem witness_flag_obligations :
    (Instr.adcImm 0x01#8).mnemonic ∉ [Mnemonic.php, .plp, .rti, .cld, .sed] ∧
    Instr.plp.mnemonic ∈ [Mnemonic.plp, .rti, .cld, .sed] ∧
    (Instr.adcImm 0x01#8).mnemonic ∉ [Mnemonic.php, .plp, .rti, .cli, .sei] ∧
    Instr.sei.mnemonic ∈ [Mnemonic.plp, .rti, .cli, .sei] := by decide

/-- The second clause of the statement about B: a step that answers a next state. -/
theorem witness_BreakFlagIsNeitherReadNorWritten : ∃ t, step mid = .next t := ⟨_, rfl⟩

/-- A Load short enough, with a byte to look at and addresses below and above, and one too long. -/
theorem witness_LoadCopiesThenSetsTheVector :
    Memory.wf midReady.mem ∧ midReady.run ≠ .running ∧ [0xE8#8, 0xEA#8].length ≤ 0x8000 ∧
    (1 < [0xE8#8, 0xEA#8].length ∧ 1 ≠ 0x7FFC ∧ 1 ≠ 0x7FFD) ∧
    (0x8002#16 ≠ 0xFFFC#16 ∧ 0x8002#16 ≠ 0xFFFD#16 ∧ 0x8000 + [0xE8#8, 0xEA#8].length ≤ (0x8002#16).toNat) ∧
    (0x07FF#16).toNat < 0x8000 ∧ 0x8000 < (List.replicate 0x8001 0x00#8).length := by
  refine ⟨by decide, by decide, by decide, by decide, by decide, by decide, ?_⟩
  rw [List.length_replicate]
  decide

theorem witness_StartResetsTheRegisters :
    midReady.run ≠ .running ∧ { mid with run := .halted .brk }.run ≠ .running ∧ mid.run = .running := by
  decide

/-- Also the two clauses of `StateAfterAFault`. -/
theorem witness_RunLoopStepsWhileRunning :
    midReady.run ≠ .running ∧ mid.run = .running ∧ (∃ t, step mid = .next t) ∧
    (let s := boot 0x8000#16 [0x02#8] [] base
     s.run = .running ∧ step s = .fault (.unimplementedOpcode 0x02#8 0x8000#16)) ∧
    (let s := boot 0x0800#16 [] [] base
     s.run = .running ∧ step s = .fault (.addressSpaceViolation 0x0800#16)) :=
  ⟨nofun, rfl, ⟨_, rfl⟩, ⟨rfl, rfl⟩, rfl, rfl⟩

theorem witness_StoppedRunDoesNotDependOnFuel :
    (∃ t, runLoop 1 (boot 0x8000#16 [0x00#8] [] base) = .stopped t) ∧
    ∃ e u, runLoop 1 (boot 0x8000#16 [0x02#8] [] base) = .faulted e u :=
  ⟨⟨_, rfl⟩, _, _, rfl⟩

end Sys2Proof.Tests
end

/-! ## Memory: the byte write and the Word write (R53, R57) -/

namespace Sys2Proof

/-- `w[7:0]` as a number (R10). -/
theorem loByte_eq_ofNat (w : Word) : loByte w = BitVec.ofNat 8 (w.toNat % 256) := by
  apply BitVec.eq_of_toNat_eq
  simp

/-- `w[15:8]` as a number (R10). -/
theorem hiByte_eq_ofNat (w : Word) : hiByte w = BitVec.ofNat 8 (w.toNat / 256) := by
  have := w.isLt
  apply BitVec.eq_of_toNat_eq
  simp only [toNat_hiByte, BitVec.toNat_ofNat]
  omega

end Sys2Proof

namespace Sys2Proof.Machine

/-! ### The hole of the address map (R51) -/

theorem mapped_eq_false_iff (addr : Word) :
    mapped addr = false ↔ 0x0800 ≤ addr.toNat ∧ addr.toNat ≤ 0x7FFF := by
  rw [← Bool.not_eq_true, mapped_iff]
  omega

/-! ### Read after write -/

@[simp] theorem peek_poke_self {m : Memory} (h : Memory.wf m) (addr : Word) (v : Byte) :
    peek (poke m addr v) addr = v := by simp [peek_poke h]

theorem peek_poke_of_ne {m : Memory} (h : Memory.wf m) {addr b : Word} (hb : b ≠ addr) (v : Byte) :
    peek (poke m addr v) b = peek m b := by simp [peek_poke h, hb.symm]

theorem memRead_poke_self {m : Memory} {addr : Word} (v : Byte) (h : Memory.wf m)
    (ha : mapped addr = true) : memRead (poke m addr v) addr = .ok v := by
  rw [memRead_of_mapped ha, peek_poke_self h]

/-- The frame of a byte write, over mapped and unmapped addresses alike. -/
theorem memRead_poke_of_ne {m : Memory} {addr b : Word} (v : Byte) (h : Memory.wf m)
    (hb : b ≠ addr) : memRead (poke m addr v) b = memRead m b := by
  simp only [memRead, peek_poke_of_ne h hb]

/-! ### The Word and its two cells -/

theorem self_ne_add_one (addr : Word) : addr ≠ addr + 1#16 := by
  rw [ne_eq, left_eq_add]
  decide

/-- A Word just written reads back: the high byte's write leaves the low byte's cell (R57). -/
theorem memRead16_poke_poke {m : Memory} {addr : Word} (w : Word) (h : Memory.wf m)
    (h0 : mapped addr = true) (h1 : mapped (addr + 1#16) = true) :
    memRead16 (poke (poke m addr (loByte w)) (addr + 1#16) (hiByte w)) addr = .ok w := by
  have hlo : Memory.wf (poke m addr (loByte w)) := wf_poke _ h0 h
  refine memRead16_eq_ok.mpr ⟨h0, h1, ?_⟩
  rw [peek_poke_self hlo, peek_poke_of_ne hlo (self_ne_add_one addr), peek_poke_self h,
    mkWord_hiByte_loByte]

/-- Settles O12: a mapped write is `poke`, whose reads are known at every address; an unmapped one
faults. -/
theorem writeChangesOneCell : Obligations.WriteChangesOneCell := by
  intro m addr v hm
  constructor
  · intro ha
    have hmap : mapped addr = true := (mapped_iff addr).mpr ha
    exact ⟨poke m addr v, memWrite_eq_ok.mpr ⟨hmap, rfl⟩, memRead_poke_self v hm hmap,
      fun b hb => memRead_poke_of_ne v hm hb⟩
  · intro ha
    exact memWrite_eq_error.mpr ⟨(mapped_eq_false_iff addr).mpr ha, rfl⟩

/-- Settles O13: the two byte writes are the two `poke`s of `memWrite16`, and the Word reads back
from them. -/
theorem wordJustWrittenReadsBack : Obligations.WordJustWrittenReadsBack := by
  intro m addr w hm h0 h1
  rw [← loByte_eq_ofNat, ← hiByte_eq_ofNat]
  exact ⟨poke m addr (loByte w), poke (poke m addr (loByte w)) (addr + 1#16) (hiByte w),
    memWrite_eq_ok.mpr ⟨h0, rfl⟩, memWrite_eq_ok.mpr ⟨h1, rfl⟩,
    memWrite16_eq_ok.mpr ⟨h0, h1, rfl⟩, memRead16_poke_poke w hm h0 h1⟩

end Sys2Proof.Machine

namespace Sys2Proof.Machine

/-! ### Resolving an operand once `ea` is formed, or not (R102) -/

section
variable {mode : AddrMode} {s : State} {ea : Word} {e : Fault}

/-- A Location needs `ea` only: nothing is asked of the byte at it. -/
theorem resolve_location_eq_ok :
    resolve (.location mode) s = .ok (.location ea) ↔ effectiveAddress mode s = .ok ea := by
  simp only [resolve]
  cases effectiveAddress mode s <;> simp

theorem resolve_location_eq_error :
    resolve (.location mode) s = .error e ↔ effectiveAddress mode s = .error e := by
  simp only [resolve]
  cases effectiveAddress mode s <;> simp

/-- With `ea` formed, a Value from memory is exactly the read at `ea`, its fault included. -/
theorem resolveValue_mem_of_ok (h : effectiveAddress mode s = .ok ea) :
    resolveValue (.mem mode) s = memRead s.mem ea := by
  simp only [resolveValue, h]

theorem resolveValue_mem_of_error (h : effectiveAddress mode s = .error e) :
    resolveValue (.mem mode) s = .error e := by
  simp only [resolveValue, h]

end

/-- Settles O23: by the operand's kind, and for a memory operand by whether `ea` is formed. -/
theorem resolveReturnsValueOrLocation : Obligations.ResolveReturnsValueOrLocation := by
  intro s
  refine ⟨rfl, rfl, fun op8 => resolve_value_eq_ok.mpr rfl, ?_, ?_⟩
  · intro mode ea hea
    have hread := resolveValue_mem_of_ok hea
    exact ⟨resolve_location_eq_ok.mpr hea, fun m hm => resolve_value_eq_ok.mpr (hread.trans hm),
      fun e he => resolve_value_eq_error.mpr (hread.trans he)⟩
  · intro mode e he
    exact ⟨resolve_location_eq_error.mpr he,
      resolve_value_eq_error.mpr (resolveValue_mem_of_error he)⟩

end Sys2Proof.Machine

namespace Sys2Proof.Machine

/-- Settles O56: `State.powerOn` is defined by these values (R260), and `Flags.allFalse` is the seven
flags written out, so both sides are the same state for every initial memory. -/
theorem constructionValues : Obligations.ConstructionValues := by
  intro initMem
  rfl

end Sys2Proof.Machine

/-! ## Decoding and encoding (R80-R87) -/

namespace Sys2Proof

/-! ### Decoding, through the row the opcode byte finds -/

/-- What a row makes of the bytes after its opcode byte (R83). -/
def Template.assemble : Template → List Byte → Except DecodeError (Instr × List Byte)
  | .implied i, rest => .ok (i, rest)
  | .withByte f, b1 :: rest => .ok (f b1, rest)
  | .withWord f, b1 :: b2 :: rest => .ok (f (mkWord b2 b1), rest)
  | _, _ => .error .truncated

theorem decode_of_lookup {opc : Byte} {t : Template} (h : lookup opc = some t) (rest : List Byte) :
    decode (opc :: rest) = t.assemble rest := by
  simp only [decode, h]
  cases t with
  | implied => rfl
  | withByte f => cases rest <;> rfl
  | withWord f => rcases rest with _ | ⟨_, _ | _⟩ <;> rfl

theorem decode_of_lookup_none {opc : Byte} (h : lookup opc = none) (rest : List Byte) :
    decode (opc :: rest) = .error (.unimplementedOpcode opc) := by
  simp only [decode, h]

/-- A successful decode found a row, and the row built the instruction. -/
theorem exists_lookup_of_decode {bs rest : List Byte} {i : Instr} (h : decode bs = .ok (i, rest)) :
    ∃ opc tail t, bs = opc :: tail ∧ lookup opc = some t ∧ t.assemble tail = .ok (i, rest) := by
  cases bs with
  | nil => cases h
  | cons opc tail =>
    cases ht : lookup opc with
    | none => cases (decode_of_lookup_none ht tail).symm.trans h
    | some t => exact ⟨opc, tail, t, rfl, ht, (decode_of_lookup ht tail).symm.trans h⟩

/-- Everything a row can build. -/
theorem assemble_eq_ok {t : Template} {bs rest : List Byte} {i : Instr}
    (h : t.assemble bs = .ok (i, rest)) :
    (t = .implied i ∧ bs = rest) ∨
    (∃ f b1, t = .withByte f ∧ bs = b1 :: rest ∧ i = f b1) ∨
    ∃ f b1 b2, t = .withWord f ∧ bs = b1 :: b2 :: rest ∧ i = f (mkWord b2 b1) := by
  cases t with
  | implied j =>
    cases h
    exact .inl ⟨rfl, rfl⟩
  | withByte f =>
    rcases bs with _ | ⟨b1, bs⟩
    · cases h
    · cases h
      exact .inr (.inl ⟨f, b1, rfl, rfl, rfl⟩)
  | withWord f =>
    rcases bs with _ | ⟨b1, _ | ⟨b2, bs⟩⟩
    · cases h
    · cases h
    · cases h
      exact .inr (.inr ⟨f, b1, b2, rfl, rfl, rfl⟩)

/-- What a row built from some bytes encodes as those bytes. -/
theorem encode_of_assemble {opc : Byte} {t : Template} (ht : t.EncodesAs opc) {bs rest : List Byte}
    {i : Instr} (h : t.assemble bs = .ok (i, rest)) : encode i ++ rest = opc :: bs := by
  obtain ⟨rfl, rfl⟩ | ⟨f, b1, rfl, rfl, rfl⟩ | ⟨f, b1, b2, rfl, rfl, rfl⟩ := assemble_eq_ok h
  · simp [ht.1]
  · simp [(ht b1).1]
  · simp [(ht (mkWord b2 b1)).1]

/-- With two bytes at hand every row builds an instruction. -/
theorem exists_assemble (t : Template) (b1 b2 : Byte) (bs : List Byte) :
    ∃ i rest, t.assemble (b1 :: b2 :: bs) = .ok (i, rest) := by
  cases t <;> exact ⟨_, _, rfl⟩

/-- What a row builds has the row's mnemonic and format. -/
theorem view_of_assemble {t : Template} (hu : t.Uniform) {bs rest : List Byte} {i : Instr}
    (h : t.assemble bs = .ok (i, rest)) : t.view = (i.mnemonic, i.format) := by
  obtain ⟨rfl, -⟩ | ⟨f, b1, rfl, -, rfl⟩ | ⟨f, b1, b2, rfl, -, rfl⟩ := assemble_eq_ok h
  · rfl
  · simp [Template.view, hu b1]
  · simp [Template.view, hu (mkWord b2 b1)]

set_option maxRecDepth 4000 in
/-- Settles O1: the opcode byte of each instruction finds the instruction's own row, and the row joins
the two bytes of a Word operand again. -/
theorem decodeOfEncodeIsIdentity : Obligations.DecodeOfEncodeIsIdentity := by
  intro i rest
  cases i <;> exact (decode_of_lookup rfl _).trans (by simp [Template.assemble])

/-- Settles O2: every row of the table encodes as it decodes. -/
theorem encodeOfDecodeIsIdentity : Obligations.EncodeOfDecodeIsIdentity := by
  intro bs i rest h
  obtain ⟨opc, tail, t, rfl, ht, ha⟩ := exists_lookup_of_decode h
  exact encode_of_assemble (encodesAs_of_lookup ht) ha

/-! ### The opcode bytes with a row and those without (R86, R87) -/

theorem findRow_eq_none_iff (opc : Byte) (rows : List (Byte × Template)) :
    findRow opc rows = none ↔ opc ∉ rows.map (·.1) := by
  induction rows with
  | nil => simp [findRow]
  | cons row rows ih =>
    obtain ⟨b, t⟩ := row
    by_cases hb : b = opc <;> simp_all [findRow, eq_comm]

/-- In a table that names no opcode byte twice, every row is the one its opcode byte finds. -/
theorem findRow_eq_some_of_mem {rows : List (Byte × Template)} (hn : (rows.map (·.1)).Nodup)
    {opc : Byte} {t : Template} (h : (opc, t) ∈ rows) : findRow opc rows = some t := by
  induction rows with
  | nil => cases h
  | cons row rows ih =>
    obtain ⟨hrow, hrows⟩ := List.nodup_cons.mp hn
    rcases List.mem_cons.mp h with rfl | h
    · simp [findRow]
    · have hne : row.1 ≠ opc := fun he => hrow (List.mem_map.mpr ⟨(opc, t), h, he.symm⟩)
      simp only [findRow, hne, if_false, ih hrows h]

set_option maxRecDepth 8000 in
/-- No opcode byte has two rows (R86). -/
theorem nodup_opcodes : (opcodeTable.map (·.1)).Nodup := List.Nodup.of_map BitVec.toNat (by decide)

/-- The Bytes of a list as the bits of a number, so that lists are compared by one computation. -/
def byteSet : List Byte → Nat
  | [] => 0
  | b :: bs => 2 ^ b.toNat ||| byteSet bs

theorem testBit_byteSet (b : Byte) (bs : List Byte) :
    (byteSet bs).testBit b.toNat = decide (b ∈ bs) := by
  induction bs with
  | nil => simp [byteSet]
  | cons c bs ih =>
    rw [byteSet, Nat.testBit_or, Nat.testBit_two_pow, ih]
    simp [BitVec.toNat_inj, eq_comm]

set_option maxRecDepth 8000 in
/-- Each of the 256 bytes is in one of the two lists and not in the other (R86, R87). -/
theorem byteSet_opcodes_xor :
    byteSet (opcodeTable.map (·.1)) ^^^ byteSet Machine.noEntryOpcodes = 2 ^ 256 - 1 := by decide

/-- A byte has no row when R87 lists it. -/
theorem notMem_opcodes_iff (opc : Byte) :
    opc ∉ opcodeTable.map (·.1) ↔ opc ∈ Machine.noEntryOpcodes := by
  have h : (2 ^ 256 - 1).testBit opc.toNat = true := by
    rw [Nat.testBit_two_pow_sub_one]
    exact decide_eq_true opc.isLt
  rw [← byteSet_opcodes_xor, Nat.testBit_xor, testBit_byteSet, testBit_byteSet] at h
  by_cases h1 : opc ∈ opcodeTable.map (·.1) <;> by_cases h2 : opc ∈ Machine.noEntryOpcodes <;>
    simp [h1, h2] at h ⊢

theorem lookup_eq_none_iff (opc : Byte) : lookup opc = none ↔ opc ∈ Machine.noEntryOpcodes :=
  (findRow_eq_none_iff opc opcodeTable).trans (notMem_opcodes_iff opc)

theorem lookup_of_mem {opc : Byte} {t : Template} (h : (opc, t) ∈ opcodeTable) :
    lookup opc = some t := findRow_eq_some_of_mem nodup_opcodes h

/-- Settles O3: by running the decoder on the fourteen words and counting the rows. -/
theorem sampleWordsDecodeAndRowsAreDistinct : Obligations.SampleWordsDecodeAndRowsAreDistinct :=
  ⟨rfl, rfl, rfl, rfl, rfl, rfl, rfl, rfl, rfl, rfl, rfl, rfl, rfl, rfl, rfl, nodup_opcodes⟩

/-! ### Lengths and raw operands (R82, R83) -/

theorem length_encode (i : Instr) : (encode i).length = i.length := by cases i <;> rfl

/-- After the opcode byte an encoding holds the raw operand, a Word's low byte first (R83). -/
theorem tail_encode (i : Instr) : (encode i).tail = i.operand.rawByte.toList ++
    i.operand.rawWord.elim [] fun w => [loByte w, hiByte w] := by cases i <;> rfl

theorem length_cases (i : Instr) : i.length = 1 ∨ i.length = 2 ∨ i.length = 3 := by
  cases h : i.format <;> simp [Instr.length, Format.length, h]

/-- `{hi, lo}` as a number (R10). -/
theorem mkWord_eq_ofNat (hi lo : Byte) :
    mkWord hi lo = BitVec.ofNat 16 (hi.toNat * 256 + lo.toNat) := by
  rw [← toNat_mkWord, BitVec.ofNat_toNat, BitVec.setWidth_eq]

/-- A two-byte instruction is its opcode byte and its raw operand Byte. -/
theorem rawByte_of_encode {i : Instr} {opc b1 : Byte} (h : encode i = [opc, b1]) :
    i.operand.rawByte = some b1 := by
  have ht := tail_encode i
  rw [h] at ht
  cases hb : i.operand.rawByte <;> cases hw : i.operand.rawWord <;> simp_all

/-- A three-byte instruction is its opcode byte and its raw operand Word, low byte first. -/
theorem rawWord_of_encode {i : Instr} {opc b1 b2 : Byte} (h : encode i = [opc, b1, b2]) :
    i.operand.rawWord = some (mkWord b2 b1) := by
  have ht := tail_encode i
  rw [h] at ht
  cases hb : i.operand.rawByte <;> cases hw : i.operand.rawWord <;> simp_all

/-- The bytes a decode consumed, with the instruction's length. -/
theorem encode_of_decode {bs rest : List Byte} {i : Instr} (h : decode bs = .ok (i, rest)) :
    encode i = bs.take i.length ∧ rest = bs.drop i.length := by
  have hbs := encodeOfDecodeIsIdentity bs i rest h
  rw [← hbs, ← length_encode]
  simp

/-- The opcode byte alone fixes mnemonic and format (R82). -/
theorem decode_same_opcode {opc b1 b2 : Byte} {tail rest : List Byte} {i : Instr}
    (h : decode (opc :: tail) = .ok (i, rest)) (tail' : List Byte) :
    ∃ j rest', decode (opc :: b1 :: b2 :: tail') = .ok (j, rest') ∧ j.mnemonic = i.mnemonic ∧
      j.format = i.format := by
  obtain ⟨_, _, t, ⟨⟩, ht, ha⟩ := exists_lookup_of_decode h
  have hu := opcodeTable_uniform _ (mem_of_findRow ht)
  obtain ⟨j, rest', hj⟩ := exists_assemble t b1 b2 tail'
  have hv := (view_of_assemble hu hj).symm.trans (view_of_assemble hu ha)
  exact ⟨j, rest', (decode_of_lookup ht _).trans hj, (Prod.mk.inj hv).1, (Prod.mk.inj hv).2⟩

/-- Settles O5: the bytes consumed are the encoding, which is as long as the format says and holds the
raw operand; the row of the opcode byte fixes the rest. -/
theorem opcodeFixesLengthAndOperandIsLowByteFirst :
    Obligations.OpcodeFixesLengthAndOperandIsLowByteFirst := by
  constructor
  · intro opc b1 b2 tail i rest h
    obtain ⟨henc, hrest⟩ := encode_of_decode h
    refine ⟨hrest, length_cases i, fun h2 => ?_, fun h3 => ?_, fun c1 c2 tail' => ?_⟩
    · exact rawByte_of_encode (by simpa [h2] using henc)
    · rw [rawWord_of_encode (by simpa [h3] using henc), mkWord_eq_ofNat]
    · obtain ⟨j, rest', hj, hm, hf⟩ := decode_same_opcode h tail'
      exact ⟨j, rest', hj, hm, hf, by simp only [Instr.length, hf]⟩
  · intro opc hopc tail
    exact decode_of_lookup_none ((lookup_eq_none_iff opc).mpr hopc) tail

namespace Machine

/-- The opcode bytes of a mnemonic (R86), from the rows of the opcode table that have it: no other row
has one of these bytes. -/
theorem encodedAs_of_perm {m : Mnemonic} {rows : List (Byte × Format)}
    (h : rows.Perm ((opcodeTable.filter (·.2.view.1 = m)).map fun row => (row.1, row.2.view.2))) :
    EncodedAs m rows := by
  refine encodedAs_of_rows h fun row hr => ?_
  obtain ⟨⟨opc, t⟩, ht, rfl⟩ := List.mem_map.mp (h.subset hr)
  obtain ⟨hmem, hm⟩ := List.mem_filter.mp ht
  exact ⟨t, lookup_of_mem hmem, Prod.ext (of_decide_eq_true hm) rfl⟩

end Machine
end Sys2Proof

/-! ## What an instruction changes (R41) -/

namespace Sys2Proof.Machine

/-- One write at each address of a list, in order, all of them mapped, and no other. -/
def StoresAt : List Word → Memory → Memory → Prop
  | [], m, m' => m' = m
  | addr :: addrs, m, m' => mapped addr = true ∧ ∃ v, StoresAt addrs (poke m addr v) m'

theorem StoresAt.wf {addrs : List Word} {m m' : Memory} (h : StoresAt addrs m m')
    (hm : Memory.wf m) : Memory.wf m' := by
  induction addrs generalizing m with
  | nil => exact h ▸ hm
  | cons addr addrs ih =>
    obtain ⟨ha, v, h⟩ := h
    exact ih h (wf_poke v ha hm)

theorem StoresAt.memRead_of_notMem {addrs : List Word} {m m' : Memory} (h : StoresAt addrs m m')
    (hm : Memory.wf m) {b : Word} (hb : b ∉ addrs) : memRead m' b = memRead m b := by
  induction addrs generalizing m with
  | nil => rw [h]
  | cons addr addrs ih =>
    obtain ⟨ha, v, h⟩ := h
    rw [List.mem_cons, not_or] at hb
    obtain ⟨hne, hb⟩ := hb
    rw [ih h (wf_poke v ha hm) hb, memRead_poke_of_ne v hm hne]

/-- What the execution of an Operation may change: the registers and flags of its row in R41, the
addresses `storedAddrs` computes, and in BRK the run state. -/
structure Frame (op : Operation) (s t : State) : Prop where
  a : op.writesA = false → t.a = s.a
  x : op.writesX = false → t.x = s.x
  y : op.writesY = false → t.y = s.y
  sp : op.writesSp = false → t.sp = s.sp
  pc : op.transfersControl = false → t.pc = s.pc
  run : t.run = if op.mnemonic = .brk then .halted .brk else s.run
  flags : ∀ f ∉ op.mnemonic.flagsWritten, t.flags.get f = s.flags.get f
  mem : StoresAt (storedAddrs op s) s.mem t.mem

theorem frame_withValue {op : Operation} {src : ValueSource} {s t : State} {k : Byte → State}
    (hk : ∀ m, Frame op s (k m)) (h : withValue src s k = .next t) : Frame op s t := by
  obtain ⟨m, -, rfl⟩ := withValue_eq_next.mp h
  exact hk m

theorem frame_withAddress {op : Operation} {mode : AddrMode} {s t : State} {k : Word → State}
    (hk : ∀ ea, Frame op s (k ea)) (h : withAddress mode s k = .next t) : Frame op s t := by
  obtain ⟨ea, -, rfl⟩ := withAddress_eq_next.mp h
  exact hk ea

/-- The mnemonics that write the cell at their effective address (R133-R135, R170, R175, R176). -/
abbrev eaWriters : List Mnemonic := [.sta, .stx, .sty, .asl, .lsr, .rol, .ror, .inc, .dec]

theorem storedAddrs_of_mem_eaWriters {m : Mnemonic} (hm : m ∈ eaWriters) {mode : AddrMode}
    {s : State} {ea : Word} (h : effectiveAddress mode s = .ok ea) :
    storedAddrs ⟨m, .location mode⟩ s = [ea] := by
  rw [storedAddrs, if_pos hm]
  simp only [h]

theorem ne_brk_of_mem_eaWriters {m : Mnemonic} (hm : m ∈ eaWriters) : m ≠ .brk := by
  rintro rfl
  simp at hm

/-- A store changes the cell at its effective address and nothing else. -/
theorem frame_storeByte {m : Mnemonic} (hm : m ∈ eaWriters) {mode : AddrMode} {v : Byte}
    {s t : State} (h : storeByte mode v s = .next t) : Frame ⟨m, .location mode⟩ s t := by
  obtain ⟨ea, hea, hmap, rfl⟩ := storeByte_eq_next.mp h
  refine ⟨fun _ => rfl, fun _ => rfl, fun _ => rfl, fun _ => rfl, fun _ => rfl,
    (if_neg (ne_brk_of_mem_eaWriters hm)).symm, fun _ _ => rfl, ?_⟩
  rw [storedAddrs_of_mem_eaWriters hm hea]
  exact ⟨hmap, v, rfl⟩

/-- A read-modify-write changes that cell and the flags of its mnemonic. -/
theorem frame_modifyByte {m : Mnemonic} (hm : m ∈ eaWriters) {mode : AddrMode}
    {r : Byte → Byte} {fl : Byte → Flags} {s t : State}
    (hf : ∀ v, ∀ f ∉ m.flagsWritten, (fl v).get f = s.flags.get f)
    (h : modifyByte mode s r fl = .next t) : Frame ⟨m, .location mode⟩ s t := by
  obtain ⟨ea, hea, hmap, rfl⟩ := modifyByte_eq_next.mp h
  refine ⟨fun _ => rfl, fun _ => rfl, fun _ => rfl, fun _ => rfl, fun _ => rfl,
    (if_neg (ne_brk_of_mem_eaWriters hm)).symm, hf _, ?_⟩
  rw [storedAddrs_of_mem_eaWriters hm hea]
  exact ⟨hmap, r (peek s.mem ea), rfl⟩

theorem Flag.forall_iff {P : Flag → Prop} :
    (∀ f, P f) ↔ P .c ∧ P .z ∧ P .i ∧ P .d ∧ P .b ∧ P .v ∧ P .n :=
  ⟨fun h => ⟨h _, h _, h _, h _, h _, h _, h _⟩,
    fun ⟨hc, hz, hi, hd, hb, hv, hn⟩ f => by cases f <;> assumption⟩

/-- A branch writes PC whether it is taken or not (R191): not taken, with the value it has. -/
theorem branchIf_eq (cond : Bool) (mode : AddrMode) (s : State) :
    branchIf cond mode s = withAddress mode s fun ea => s.setPc (bif cond then ea else s.pc) := by
  cases cond <;> rfl

/-- A jump or branch changes PC and nothing else. -/
theorem frame_setPc {op : Operation} {s : State} (hm : op.mnemonic ∈
    [.jmp, .bcc, .bcs, .beq, .bne, .bmi, .bpl, .bvc, .bvs]) (w : Word) : Frame op s (s.setPc w) := by
  obtain ⟨m, operand⟩ := op
  fin_cases hm <;> exact ⟨fun _ => rfl, fun _ => rfl, fun _ => rfl, fun _ => rfl, nofun, rfl,
    fun _ _ => rfl, rfl⟩

theorem frame_branchIf {m : Mnemonic} (hm : m ∈ [.bcc, .bcs, .beq, .bne, .bmi, .bpl, .bvc, .bvs])
    {mode : AddrMode} {cond : Bool} {s t : State} (h : branchIf cond mode s = .next t) :
    Frame ⟨m, .location mode⟩ s t := by
  rw [branchIf_eq] at h
  exact frame_withAddress (fun ea => frame_setPc (.tail _ hm) _) h

/-- Every rule of the executor keeps to its row of R41: by the shape of the rule, and then by what it
does to each field. -/
theorem frame_of_performOf {op : Operation} {s t : State}
    (h : performOf op s = some (.next t)) : Frame op s t := by
  obtain ⟨m, operand⟩ := op
  cases m <;> cases operand <;> simp only [performOf, reduceCtorEq, Option.some.injEq] at h
  case sta.location | stx.location | sty.location =>
    exact frame_storeByte (by simp) h
  case asl.location | lsr.location | rol.location | ror.location | inc.location | dec.location =>
    refine frame_modifyByte (by simp) (fun v => ?_) h
    simp [Flag.forall_iff, Mnemonic.flagsWritten, Flags.get]
  case jmp.location => exact frame_withAddress (fun ea => frame_setPc (by simp) ea) h
  case bcc.location | bcs.location | beq.location | bne.location | bmi.location | bpl.location |
      bvc.location | bvs.location =>
    exact frame_branchIf (by simp) h
  case jsr.location =>
    refine frame_withAddress (fun ea => ?_) h
    exact ⟨fun _ => rfl, fun _ => rfl, fun _ => rfl, nofun, nofun, rfl, fun _ _ => rfl,
      mapped_stackAddr _, _, mapped_stackAddr _, _, rfl⟩
  case' lda.value | ldx.value | ldy.value | adc.value | sbc.value | and.value | ora.value |
      eor.value | cmp.value | cpx.value | cpy.value | bit.value =>
    refine frame_withValue (fun v => ?_) h
  case' tax | tay | txa | tya | tsx | txs | asl.accumulator | lsr.accumulator | rol.accumulator |
      ror.accumulator | inx | iny | dex | dey | rts | pha | php | pla | plp | clc | sec | cli | sei |
      cld | sed | clv | nop | rti | brk =>
    cases h
  all_goals
    constructor <;> simp [Operation.writesA, Operation.writesX, Operation.writesY,
      Operation.writesSp, Operation.transfersControl, Flag.forall_iff, Mnemonic.flagsWritten,
      Flags.get, storedAddrs, StoresAt, mapped_stackAddr]

theorem frame_of_exec {i : Instr} {s t : State} (h : exec i s = .next t) : Frame i.operation s t :=
  frame_of_performOf ((performOf_operation i s).trans (congrArg some h))

/-- Settles O48: the register columns of the frame. -/
theorem unwrittenRegistersAreKept : Obligations.UnwrittenRegistersAreKept := by
  intro i s t h
  have hf := frame_of_exec h
  exact ⟨hf.a, hf.x, hf.y, hf.sp, hf.pc, fun hb => hf.run.trans (if_neg hb)⟩

/-- Settles O49: the flag column of the frame. -/
theorem unwrittenFlagsAreKept : Obligations.UnwrittenFlagsAreKept :=
  fun _ _ _ h => (frame_of_exec h).flags

/-- Settles O50: an instruction writes at the addresses `storedAddrs` computes, in order. -/
theorem unstoredMemoryIsKept : Obligations.UnstoredMemoryIsKept :=
  fun _ _ _ hm h _ haddr => (frame_of_exec h).mem.memRead_of_notMem hm haddr

end Sys2Proof.Machine

/-! ## A flag an instruction does not read (R41) -/

namespace Sys2Proof

open Machine

/-- The column "flags read" of R41. -/
def Mnemonic.flagsRead : Mnemonic → List Flag
  | .adc | .sbc | .rol | .ror | .bcc | .bcs => [.c]
  | .beq | .bne => [.z]
  | .bmi | .bpl => [.n]
  | .bvc | .bvs => [.v]
  | .php => [.c, .z, .i, .d, .v, .n]
  | _ => []

namespace Machine

/-- One flag gets a value. -/
def Flags.put (k : Flag) (b : Bool) (f : Flags) : Flags :=
  match k with
  | .c => { f with c := b }
  | .z => { f with z := b }
  | .i => { f with i := b }
  | .d => { f with d := b }
  | .b => { f with b := b }
  | .v => { f with v := b }
  | .n => { f with n := b }

/-- The machine with one flag given a value. -/
def State.putFlag (k : Flag) (b : Bool) (s : State) : State := s.setFlags (s.flags.put k b)

section
variable (k : Flag) (b : Bool) (s : State) (mode : AddrMode)

theorem effectiveAddress_putFlag :
    effectiveAddress mode (s.putFlag k b) = effectiveAddress mode s := by
  cases mode <;> rfl

theorem withValue_putFlag (src : ValueSource) (f : Byte → State) :
    withValue src (s.putFlag k b) f = withValue src s f := by
  cases src with
  | imm => rfl
  | mem mode => simp only [withValue, resolveValue, effectiveAddress_putFlag]; rfl

theorem withAddress_putFlag (f : Word → State) :
    withAddress mode (s.putFlag k b) f = withAddress mode s f := by
  simp only [withAddress, effectiveAddress_putFlag]

theorem storeByte_putFlag (v : Byte) :
    storeByte mode v (s.putFlag k b) = mapNext (·.putFlag k b) (storeByte mode v s) := by
  simp only [storeByte, effectiveAddress_putFlag]
  cases effectiveAddress mode s with
  | error => rfl
  | ok ea => by_cases h : mapped ea = true <;> simp [memWrite, h] <;> rfl

/-- A read-modify-write gives all the flags anew. -/
theorem modifyByte_putFlag (r : Byte → Byte) (fl : Byte → Flags) :
    modifyByte mode (s.putFlag k b) r fl = modifyByte mode s r fl := by
  simp only [modifyByte, effectiveAddress_putFlag]; rfl

theorem mapNext_withValue (g : State → State) (src : ValueSource) (f : Byte → State) :
    mapNext g (withValue src s f) = withValue src s fun m => g (f m) := by
  unfold withValue raise
  cases resolveValue src s <;> rfl

theorem mapNext_withAddress (g : State → State) (f : Word → State) :
    mapNext g (withAddress mode s f) = withAddress mode s fun ea => g (f ea) := by
  unfold withAddress raise
  cases effectiveAddress mode s <;> rfl

theorem mapNext_modifyByte (r : Byte → Byte) (fl : Byte → Flags) :
    mapNext (·.putFlag k b) (modifyByte mode s r fl) =
      modifyByte mode s r fun v => (fl v).put k b := by
  unfold modifyByte raise
  cases effectiveAddress mode s with
  | error => rfl
  | ok ea => by_cases h : mapped ea = true <;> simp [memRead, memWrite, h] <;> rfl

theorem branchIf_putFlag {cond cond' : Bool} (h : cond' = cond) :
    branchIf cond' mode (s.putFlag k b) = mapNext (·.putFlag k b) (branchIf cond mode s) := by
  rw [h, branchIf_eq, branchIf_eq, withAddress_putFlag, mapNext_withAddress]
  rfl

end

/-- A flag that a rule neither reads nor writes goes through it: the rule answers what it answers
without the change, with the change made to the next state. -/
theorem performOf_putFlag {op : Operation} {k : Flag} (hr : k ∉ op.mnemonic.flagsRead)
    (hw : k ∉ op.mnemonic.flagsWritten) (b : Bool) (s : State) :
    performOf op (s.putFlag k b) = (performOf op s).map (mapNext (·.putFlag k b)) := by
  obtain ⟨m, operand⟩ := op
  cases m <;> cases operand <;>
    simp only [performOf, Option.map_none, Option.map_some, Option.some.injEq]
  case sta.location | stx.location | sty.location => exact storeByte_putFlag ..
  case' jmp.location | jsr.location =>
    refine (withAddress_putFlag ..).trans (.trans ?_ (mapNext_withAddress ..).symm)
  case' bcc.location | bcs.location | beq.location | bne.location | bmi.location | bpl.location |
      bvc.location | bvs.location =>
    refine branchIf_putFlag k b s _ ?_
  case' asl.location | lsr.location | rol.location | ror.location | inc.location | dec.location =>
    refine (modifyByte_putFlag ..).trans (.trans ?_ (mapNext_modifyByte ..).symm)
  case' lda.value | ldx.value | ldy.value | adc.value | sbc.value | and.value | ora.value |
      eor.value | cmp.value | cpx.value | cpy.value | bit.value =>
    refine (withValue_putFlag ..).trans (.trans ?_ (mapNext_withValue ..).symm)
  all_goals
    revert hr hw
    cases k <;> simp [Mnemonic.flagsRead, Mnemonic.flagsWritten] <;> rfl

/-- A flag that a rule writes and does not read makes no difference. -/
theorem performOf_putFlag_of_written {op : Operation} {k : Flag} (hr : k ∉ op.mnemonic.flagsRead)
    (hw : k ∈ op.mnemonic.flagsWritten) (b : Bool) (s : State) :
    performOf op (s.putFlag k b) = performOf op s := by
  obtain ⟨m, operand⟩ := op
  cases m <;> cases operand <;>
    simp only [performOf, Option.some.injEq]
  case' asl.location | lsr.location | rol.location | ror.location | inc.location | dec.location =>
    refine (modifyByte_putFlag ..).trans ?_
  case' lda.value | ldx.value | ldy.value | adc.value | sbc.value | and.value | ora.value |
      eor.value | cmp.value | cpx.value | cpy.value | bit.value =>
    refine (withValue_putFlag ..).trans ?_
  all_goals
    revert hr hw
    cases k <;> simp [Mnemonic.flagsRead, Mnemonic.flagsWritten] <;> rfl

theorem exec_putFlag {i : Instr} {k : Flag}
    (h : k ∉ i.mnemonic.flagsRead ∧ k ∉ i.mnemonic.flagsWritten) (b : Bool) (s : State) :
    exec i (s.putFlag k b) = mapNext (·.putFlag k b) (exec i s) := by
  refine exec_of_operation rfl ((performOf_putFlag h.1 h.2 b s).trans ?_)
  rw [performOf_operation, Option.map_some]

theorem exec_putFlag_of_written {i : Instr} {k : Flag}
    (h : k ∉ i.mnemonic.flagsRead ∧ k ∈ i.mnemonic.flagsWritten) (b : Bool) (s : State) :
    exec i (s.putFlag k b) = exec i s :=
  exec_of_operation rfl ((performOf_putFlag_of_written h.1 h.2 b s).trans (performOf_operation i s))

/-- Settles O51: by the columns of R41 D is read by PHP alone and written by PLP, RTI, CLD and SED. -/
theorem decimalFlagSteersNothing : Obligations.DecimalFlagSteersNothing := by
  intro i s d
  refine ⟨fun hm => exec_putFlag (k := .d) ?_ d s, fun hm => exec_putFlag_of_written (k := .d) ?_ d s⟩
    <;> revert hm <;> cases i.mnemonic <;> decide

/-- Settles O52: by the columns of R41 I is read by PHP alone and written by PLP, RTI, CLI and SEI. -/
theorem interruptFlagMasksNothing : Obligations.InterruptFlagMasksNothing := by
  intro i s v
  refine ⟨fun hm => exec_putFlag (k := .i) ?_ v s, fun hm => exec_putFlag_of_written (k := .i) ?_ v s⟩
    <;> revert hm <;> cases i.mnemonic <;> decide

/-- No mnemonic has B in a column of R41 (R33). -/
theorem break_notMem_flags (m : Mnemonic) : .b ∉ m.flagsRead ∧ .b ∉ m.flagsWritten := by
  cases m <;> decide

end Machine
end Sys2Proof

/-! ## The fetch and the step (R85, R239, R266) -/

namespace Sys2Proof

/-- The three shapes of an instruction: its row, and its encoding by that row. -/
theorem encode_cases (i : Instr) : ∃ opc,
    (lookup opc = some (.implied i) ∧ encode i = [opc]) ∨
    (∃ f b, lookup opc = some (.withByte f) ∧ i = f b ∧ encode i = [opc, b]) ∨
    ∃ f b1 b2, lookup opc = some (.withWord f) ∧ i = f (mkWord b2 b1) ∧ encode i = [opc, b1, b2] := by
  obtain ⟨opc, tail, t, henc, ht, ha⟩ := exists_lookup_of_decode (decodeOfEncodeIsIdentity i [])
  rw [List.append_nil] at henc
  refine ⟨opc, ?_⟩
  obtain ⟨rfl, rfl⟩ | ⟨f, b1, rfl, rfl, hi⟩ | ⟨f, b1, b2, rfl, rfl, hi⟩ := assemble_eq_ok ha
  · exact .inl ⟨ht, henc⟩
  · exact .inr (.inl ⟨f, b1, ht, hi, henc⟩)
  · exact .inr (.inr ⟨f, b1, b2, ht, hi, henc⟩)

/-- A mapped result that is an error comes from that error. -/
theorem eq_error_of_map {ε α β : Type} {f : α → β} {x : Except ε α} {e : ε}
    (h : x.map f = .error e) : x = .error e := by
  cases x <;> cases h
  rfl

/-- A mapped result that is a value comes from a value. -/
theorem eq_ok_of_map {ε α β : Type} {f : α → β} {x : Except ε α} {b : β}
    (h : x.map f = .ok b) : ∃ a, x = .ok a ∧ f a = b := by
  cases x <;> cases h
  exact ⟨_, rfl, rfl⟩

namespace Machine

section
variable {m : Memory} {pc : Word} {i : Instr} {e : Fault} {opc : Byte} {t : Template}

/-- What a row fetches after its opcode byte (R85): a Word operand is a two-byte read. -/
def fetchOperand (m : Memory) (pc : Word) : Template → Except Fault Instr
  | .implied i => .ok i
  | .withByte f => (memRead m (pc + 1#16)).map f
  | .withWord f => (memRead16 m (pc + 1#16)).map f

theorem fetchAt_of_read_error (h : memRead m pc = .error e) : fetchAt m pc = .error e := by
  simp only [fetchAt, h]

theorem fetchAt_of_lookup_none (h : memRead m pc = .ok opc) (ht : lookup opc = none) :
    fetchAt m pc = .error (.unimplementedOpcode opc pc) := by
  simp only [fetchAt, h, ht]

theorem fetchAt_of_lookup (h : memRead m pc = .ok opc) (ht : lookup opc = some t) :
    fetchAt m pc = fetchOperand m pc t := by
  simp only [fetchAt, h, ht]
  cases t with
  | implied j => rfl
  | withByte f =>
    simp only [fetchOperand]
    cases memRead m (pc + 1#16) <;> rfl
  | withWord f =>
    have hpc : pc + 1#16 + 1#16 = pc + 2#16 := BitVec.add_assoc ..
    simp only [fetchOperand, memRead16, hpc]
    cases memRead m (pc + 1#16) with
    | error => rfl
    | ok b1 => cases memRead m (pc + 2#16) <;> rfl

/-- Everything a fetch can do: its opcode byte is unmapped, or has no row, or has a row, which fetches
the operand. -/
theorem fetchAt_cases (m : Memory) (pc : Word) :
    (mapped pc = false ∧ fetchAt m pc = .error (.addressSpaceViolation pc)) ∨
    ∃ opc, memRead m pc = .ok opc ∧
      ((lookup opc = none ∧ fetchAt m pc = .error (.unimplementedOpcode opc pc)) ∨
      ∃ t, lookup opc = some t ∧ fetchAt m pc = fetchOperand m pc t) := by
  cases h : memRead m pc with
  | error e =>
    obtain ⟨hm, rfl⟩ := memRead_eq_error.mp h
    exact .inl ⟨hm, fetchAt_of_read_error h⟩
  | ok opc =>
    refine .inr ⟨opc, rfl, ?_⟩
    cases ht : lookup opc with
    | none => exact .inl ⟨rfl, fetchAt_of_lookup_none h ht⟩
    | some t => exact .inr ⟨t, rfl, fetchAt_of_lookup h ht⟩

theorem fetchOperand_withByte {f : Byte → Instr} {b : Byte} (h : memRead m (pc + 1#16) = .ok b) :
    fetchOperand m pc (.withByte f) = .ok (f b) := by
  simp [fetchOperand, h, Except.map]

theorem fetchOperand_withWord {f : Word → Instr} {b1 b2 : Byte}
    (h1 : memRead m (pc + 1#16) = .ok b1) (h2 : memRead m (pc + 2#16) = .ok b2) :
    fetchOperand m pc (.withWord f) = .ok (f (mkWord b2 b1)) := by
  have hpc : pc + 1#16 + 1#16 = pc + 2#16 := BitVec.add_assoc ..
  simp [fetchOperand, memRead16, hpc, h1, h2, Except.map]

/-- Where memory holds the encoding of an instruction, the fetch gives that instruction. -/
theorem fetchAt_of_reads (h : ∀ k < i.length,
    memRead m (pc + BitVec.ofNat 16 k) = .ok ((encode i).getD k 0x00#8)) : fetchAt m pc = .ok i := by
  have h0 : memRead m pc = .ok ((encode i).getD 0 0x00#8) := by
    simpa using h 0 (by have := length_cases i; omega)
  rw [← length_encode] at h
  obtain ⟨opc, ⟨ht, henc⟩ | ⟨f, b, ht, hi, henc⟩ | ⟨f, b1, b2, ht, hi, henc⟩⟩ := encode_cases i <;>
    rw [henc] at h h0 <;> rw [fetchAt_of_lookup h0 ht]
  · rfl
  · rw [fetchOperand_withByte (h 1 (by simp)), hi]
    rfl
  · rw [fetchOperand_withWord (h 1 (by simp)) (h 2 (by simp)), hi]
    rfl

/-- With the first operand byte unmapped, the fetch faults on it. -/
theorem fetchAt_of_unmapped_one (h0 : memRead m pc = .ok ((encode i).headD 0x00#8))
    (hl : 2 ≤ i.length) (h1 : mapped (pc + 1#16) = false) :
    fetchAt m pc = .error (.addressSpaceViolation (pc + 1#16)) := by
  rw [← length_encode] at hl
  have hr := memRead_of_unmapped (m := m) h1
  obtain ⟨opc, ⟨ht, henc⟩ | ⟨f, b, ht, -, henc⟩ | ⟨f, b1, b2, ht, -, henc⟩⟩ := encode_cases i <;>
    rw [henc] at h0 hl <;> rw [fetchAt_of_lookup h0 ht]
  · exact absurd hl (by simp)
  · simp [fetchOperand, hr, Except.map]
  · simp [fetchOperand, memRead16, hr, Except.map]

/-- With the first operand byte mapped and the second not, the fetch faults on the second. -/
theorem fetchAt_of_unmapped_two (h0 : memRead m pc = .ok ((encode i).headD 0x00#8))
    (hl : i.length = 3) (h1 : mapped (pc + 1#16) = true) (h2 : mapped (pc + 2#16) = false) :
    fetchAt m pc = .error (.addressSpaceViolation (pc + 2#16)) := by
  have hpc : pc + 1#16 + 1#16 = pc + 2#16 := BitVec.add_assoc ..
  have hr : memRead16 m (pc + 1#16) = .error (.addressSpaceViolation (pc + 2#16)) :=
    memRead16_eq_error.mpr (.inr ⟨h1, hpc ▸ h2, by rw [hpc]⟩)
  rw [← length_encode] at hl
  obtain ⟨opc, ⟨-, henc⟩ | ⟨f, b, -, -, henc⟩ | ⟨f, b1, b2, ht, -, henc⟩⟩ := encode_cases i <;>
    rw [henc] at h0 hl
  · exact absurd hl (by simp)
  · exact absurd hl (by simp)
  · simp [fetchAt_of_lookup h0 ht, fetchOperand, hr, Except.map]

theorem fetchOperand_eq_error (h : fetchOperand m pc t = .error e) :
    ∃ addr, mapped addr = false ∧ e = .addressSpaceViolation addr := by
  cases t with
  | implied j => cases h
  | withByte f => exact ⟨_, memRead_eq_error.mp (eq_error_of_map h)⟩
  | withWord f =>
    rcases memRead16_eq_error.mp (eq_error_of_map h) with ⟨h0, rfl⟩ | ⟨-, h1, rfl⟩
    · exact ⟨_, h0, rfl⟩
    · exact ⟨_, h1, rfl⟩

/-- A row's instruction has the row's opcode byte. -/
theorem head_encode_of_fetchOperand (ht : lookup opc = some t) (h : fetchOperand m pc t = .ok i) :
    (encode i).head? = some opc := by
  have henc := encodesAs_of_lookup ht
  cases t with
  | implied j =>
    cases h
    simp [henc.1]
  | withByte f =>
    obtain ⟨b, -, rfl⟩ := eq_ok_of_map h
    simp [(henc b).1]
  | withWord f =>
    obtain ⟨w, -, rfl⟩ := eq_ok_of_map h
    simp [(henc w).1]

/-- A fetched instruction's opcode byte is the byte at PC. -/
theorem memRead_of_fetchAt (h : fetchAt m pc = .ok i) :
    ∃ opc, memRead m pc = .ok opc ∧ (encode i).head? = some opc := by
  rcases fetchAt_cases m pc with ⟨-, he⟩ | ⟨opc, hopc, ⟨-, he⟩ | ⟨t, ht, he⟩⟩
  · cases he.symm.trans h
  · cases he.symm.trans h
  · exact ⟨opc, hopc, head_encode_of_fetchOperand ht (he.symm.trans h)⟩

/-- A fetch faults on an opcode byte with no row, or on an unmapped byte. -/
theorem fetchAt_eq_error (h : fetchAt m pc = .error e) :
    (∃ opc, memRead m pc = .ok opc ∧ lookup opc = none ∧ e = .unimplementedOpcode opc pc) ∨
    ∃ addr, mapped addr = false ∧ e = .addressSpaceViolation addr := by
  rcases fetchAt_cases m pc with ⟨hm, he⟩ | ⟨opc, hopc, ⟨hn, he⟩ | ⟨t, ht, he⟩⟩
  · cases he.symm.trans h
    exact .inr ⟨pc, hm, rfl⟩
  · cases he.symm.trans h
    exact .inl ⟨opc, hopc, hn, rfl⟩
  · exact .inr (fetchOperand_eq_error (he.symm.trans h))

end

/-! ### The step -/

section
variable {s t : State} {i : Instr} {e : Fault}

theorem step_of_not_running (hr : s.run ≠ .running) : step s = .next s := by
  unfold step
  cases h : s.run with
  | running => exact absurd h hr
  | ready | halted => rfl

theorem step_of_fetch (hr : s.run = .running) (h : fetchAt s.mem s.pc = .ok i) :
    step s = exec i (advance s i) := by
  simp only [step, hr, h]

theorem step_of_fetch_error (hr : s.run = .running) (h : fetchAt s.mem s.pc = .error e) :
    step s = .fault e := by
  simp only [step, hr, h, raise]

/-- Everything a running machine's step can do. -/
theorem step_cases (hr : s.run = .running) :
    (∃ i, fetchAt s.mem s.pc = .ok i ∧ step s = exec i (advance s i)) ∨
    ∃ e, fetchAt s.mem s.pc = .error e ∧ step s = .fault e := by
  cases h : fetchAt s.mem s.pc with
  | ok i => exact .inl ⟨i, rfl, step_of_fetch hr h⟩
  | error e => exact .inr ⟨e, rfl, step_of_fetch_error hr h⟩

/-- A next state comes from the executor on the fetched instruction. -/
theorem step_eq_next (hr : s.run = .running) (h : step s = .next t) :
    ∃ i, fetchAt s.mem s.pc = .ok i ∧ exec i (advance s i) = .next t := by
  rcases step_cases hr with ⟨i, hi, he⟩ | ⟨e, -, he⟩
  · exact ⟨i, hi, he.symm.trans h⟩
  · cases he.symm.trans h

/-- A fault of a step is one of two: an opcode byte with no row, or an unmapped address. -/
theorem step_eq_fault (h : step s = .fault e) : s.run = .running ∧
    ((∃ opc, memRead s.mem s.pc = .ok opc ∧ lookup opc = none ∧ e = .unimplementedOpcode opc s.pc) ∨
    ∃ addr, mapped addr = false ∧ e = .addressSpaceViolation addr) := by
  by_cases hr : s.run = .running
  · refine ⟨hr, ?_⟩
    rcases step_cases hr with ⟨i, -, he⟩ | ⟨e', hf, he⟩
    · rcases settles_exec i (advance s i) with ⟨t, ht⟩ | ⟨addr, ha, ht⟩
      · cases (he.trans ht).symm.trans h
      · cases (he.trans ht).symm.trans h
        exact .inr ⟨addr, ha, rfl⟩
    · cases he.symm.trans h
      exact fetchAt_eq_error hf
  · cases (step_of_not_running hr).symm.trans h

theorem step_ne_refused (r : Refusal) : step s ≠ .refused r := by
  intro h
  by_cases hr : s.run = .running
  · rcases step_cases hr with ⟨i, -, he⟩ | ⟨e, -, he⟩
    · rcases settles_exec i (advance s i) with ⟨t, ht⟩ | ⟨addr, -, ht⟩ <;>
        cases (he.trans ht).symm.trans h
    · cases he.symm.trans h
  · cases (step_of_not_running hr).symm.trans h

end

/-- Settles O8: only the arm for a running machine fetches. -/
theorem stoppedMachineStaysAsItIs : Obligations.StoppedMachineStaysAsItIs :=
  fun _ => step_of_not_running

/-- Settles O4: the listed bytes are those the table has no row for, and a fault of any other opcode
is a violation. -/
theorem opcodeBytesWithoutEntryEndTheRun : Obligations.OpcodeBytesWithoutEntryEndTheRun := by
  refine ⟨rfl, List.Nodup.of_map BitVec.toNat (by decide), fun s opc hr hopc => ?_⟩
  rw [← lookup_eq_none_iff]
  constructor
  · intro hn
    exact step_of_fetch_error hr (fetchAt_of_lookup_none hopc hn)
  · intro h
    obtain ⟨-, ⟨opc', hopc', hn, ⟨⟩⟩ | ⟨addr, -, he⟩⟩ := step_eq_fault h
    · exact hn
    · cases he

/-- Settles O10: a fault of a step is not `unimplementedOperation`. -/
theorem noStepIsUnimplementedOrRefused : Obligations.NoStepIsUnimplementedOrRefused := by
  refine ⟨fun s op h => ?_, fun s r => step_ne_refused r⟩
  obtain ⟨-, ⟨opc, -, -, he⟩ | ⟨addr, -, he⟩⟩ := step_eq_fault h <;> cases he

/-- Settles O11: a violation names an unmapped address. -/
theorem violationNamesAnUnmappedAddress : Obligations.ViolationNamesAnUnmappedAddress := by
  intro s addr h
  obtain ⟨hr, ⟨opc, -, -, he⟩ | ⟨addr', ha, ⟨⟩⟩⟩ := step_eq_fault h
  · cases he
  · exact ⟨hr, (mapped_eq_false_iff addr).mp ha⟩

/-- Settles O6: the bytes decoded are the instruction's encoding, so the fetch finds that encoding at
PC. -/
theorem stepRunsTheDecodedInstruction : Obligations.StepRunsTheDecodedInstruction := by
  intro s bs i rest hr hd hreads
  refine step_of_fetch hr (fetchAt_of_reads fun k hk => ?_)
  rw [hreads k hk, ← encodeOfDecodeIsIdentity bs i rest hd,
    List.getD_append _ _ _ _ (by rwa [length_encode])]

/-- Settles O7: the fetch faults on the first unmapped byte, in the order it reads them. -/
theorem fetchFaultsInOrder : Obligations.FetchFaultsInOrder := by
  intro s hr
  refine ⟨fun h => ?_, fun i h0 => ⟨fun hl h1 => ?_, fun hl h1 h2 => ?_⟩⟩ <;>
    refine step_of_fetch_error hr ?_
  · exact fetchAt_of_read_error (memRead_of_unmapped h)
  · exact fetchAt_of_unmapped_one h0 hl h1
  · exact fetchAt_of_unmapped_two h0 hl h1 h2

/-! ### Where a running machine halts -/

theorem encodedAs_brk : EncodedAs .brk [(0x00#8, .imp)] := encodedAs_of_perm (.refl _)

set_option maxRecDepth 4000 in
theorem lookup_zero : lookup 0x00#8 = some (.implied .brk) := rfl

/-- The opcode byte of BRK is 0x00, and no other instruction has it (R86). -/
theorem head_encode_eq_zero_iff (i : Instr) :
    (encode i).head? = some 0x00#8 ↔ i.mnemonic = .brk := by
  constructor
  · intro h
    obtain ⟨opc, t, hopc, ht, hv⟩ := lookup_encode i
    cases hopc.symm.trans h
    cases lookup_zero.symm.trans ht
    exact (Prod.mk.inj hv).1.symm
  · intro h
    obtain ⟨row, hrow, -, hhead⟩ := encodedAs_brk.2 i h
    rwa [List.mem_singleton.mp hrow] at hhead

/-- Settles O9: by the executor's frame only BRK changes the run state. -/
theorem onlyBreakHaltsARunningMachine : Obligations.OnlyBreakHaltsARunningMachine := by
  intro s t hr h
  obtain ⟨i, hi, he⟩ := step_eq_next hr h
  obtain ⟨opc, hopc, hhead⟩ := memRead_of_fetchAt hi
  have hrun := (frame_of_exec he).run
  have hiff := head_encode_eq_zero_iff i
  simp only [hhead, Option.some.injEq] at hiff
  simp only [hopc, Except.ok.injEq, ne_eq, hiff]
  by_cases hb : i.mnemonic = .brk
  · exact .inl ⟨hb, hrun.trans (if_pos hb)⟩
  · exact .inr ⟨hb, (hrun.trans (if_neg hb)).trans hr⟩

/-! ### What every step keeps -/

/-- A step that leads somewhere keeps B (R33). -/
theorem break_of_step {s t : State} (h : step s = .next t) : t.flags.b = s.flags.b := by
  by_cases hr : s.run = .running
  · obtain ⟨i, -, he⟩ := step_eq_next hr h
    exact (frame_of_exec he).flags .b (break_notMem_flags _).2
  · cases (step_of_not_running hr).symm.trans h
    rfl

theorem wf_of_step {s t : State} (hs : Memory.wf s.mem) (h : step s = .next t) :
    Memory.wf t.mem := by
  by_cases hr : s.run = .running
  · obtain ⟨i, -, he⟩ := step_eq_next hr h
    exact (frame_of_exec he).mem.wf hs
  · cases (step_of_not_running hr).symm.trans h
    exact hs

/-- Settles O18: the executor writes mapped cells only, and no row of R41 has B. -/
theorem stepKeepsTheInvariant : Obligations.StepKeepsTheInvariant :=
  fun _ _ hs h => ⟨wf_of_step hs.wf h, (break_of_step h).trans hs.breakClear⟩

/-- Settles O53: B is in no column of R41. -/
theorem breakFlagIsNeitherReadNorWritten : Obligations.BreakFlagIsNeitherReadNorWritten :=
  ⟨fun i s v => exec_putFlag (break_notMem_flags i.mnemonic) v s, fun _ _ => break_of_step, rfl⟩

end Machine
end Sys2Proof

/-! ## Memory as data, and the two-byte accesses (R50-R58) -/

namespace Sys2Proof.Machine

/-- The listed cells are those that do not read as an unlisted one. -/
theorem mem_iff_cellAt {m : Memory} (h : Memory.wf m) (c : Host.Cell) :
    c ∈ m ↔ cellAt c.1 m = c.2 ∧ c.2 ≠ Config.unlistedByte := by
  obtain ⟨hsort, hcell⟩ := h
  induction m with
  | nil => simp [cellAt, eq_comm]
  | cons d m ih =>
    obtain ⟨hlt, hsort⟩ := List.pairwise_cons.mp hsort
    obtain ⟨hd, hcell⟩ := List.forall_mem_cons.mp hcell
    rw [List.mem_cons, ih hsort hcell]
    by_cases he : d.1 = c.1
    · have hm : cellAt c.1 m = Config.unlistedByte := cellAt_of_lt _ _ fun c' hc' => he ▸ hlt c' hc'
      have hc : c = d ↔ d.2 = c.2 := ⟨fun h => h ▸ rfl, fun h => Prod.ext he.symm h.symm⟩
      simp only [cellAt, he, if_true, hm, hc]
      constructor
      · rintro (h | ⟨h, hne⟩)
        · exact ⟨h, h ▸ hd.1⟩
        · exact absurd h.symm hne
      · exact fun h => .inl h.1
    · have hc : c ≠ d := fun h => he (h ▸ rfl)
      simp only [cellAt, he, if_false, hc, false_or]

theorem cellAt_of_not_exists {m : Memory} (h : Memory.wf m) {k : Nat} (hk : cellExists k = false) :
    cellAt k m = Config.unlistedByte := by
  by_contra hne
  have hmem := (mem_iff_cellAt h (k, cellAt k m)).mpr ⟨rfl, hne⟩
  exact absurd (h.2 _ hmem).2 (by simp [hk])

theorem cellExists_lt {k : Nat} (h : cellExists k = true) : k < 65536 := by
  simp only [cellExists, Bool.or_eq_true, decide_eq_true_eq] at h
  simp only [Config.ramStart, Config.ramSize, Config.romStart, Config.romSize] at h
  omega

theorem cellAt_eq_of_memRead_eq {m m' : Memory} (h : Memory.wf m) (h' : Memory.wf m')
    (hr : ∀ addr, memRead m addr = memRead m' addr) (k : Nat) : cellAt k m = cellAt k m' := by
  cases hk : cellExists k with
  | false => rw [cellAt_of_not_exists h hk, cellAt_of_not_exists h' hk]
  | true =>
    have haddr : (BitVec.ofNat 16 k).toNat = k := by
      simpa using Nat.mod_eq_of_lt (cellExists_lt hk)
    have hmap : mapped (BitVec.ofNat 16 k) = true := by rw [mapped, haddr, hk]
    have hread := hr (BitVec.ofNat 16 k)
    rw [memRead_of_mapped hmap, memRead_of_mapped hmap] at hread
    simpa [peek, haddr] using hread

/-- Settles O17: lists of cells by rising address are equal when they have the same cells, and which
cells they have can be read off. -/
theorem memoriesThatReadAlikeAreEqual : Obligations.MemoriesThatReadAlikeAreEqual := by
  intro m m' h h' hr
  have : Std.Irrefl (fun c d : Host.Cell => c.1 < d.1) := ⟨fun c => lt_irrefl c.1⟩
  refine h.1.eq_of_mem_iff h'.1 fun c => ?_
  rw [mem_iff_cellAt h, mem_iff_cellAt h', cellAt_eq_of_memRead_eq h h' hr]

/-- Settles O14: a two-byte access is two one-byte accesses, and a read asks only whether its address
is mapped. -/
theorem wordAccessIsTwoByteAccesses : Obligations.WordAccessIsTwoByteAccesses := by
  intro m addr w
  refine ⟨fun h => ⟨_, memRead_of_mapped h⟩, memRead_of_unmapped, fun h0 h1 => ?_, fun h => ?_,
    fun h0 h1 => ?_⟩
  · refine ⟨_, _, memRead_of_mapped h0, memRead_of_mapped h1, ?_⟩
    rw [memRead16_eq_ok.mpr ⟨h0, h1, rfl⟩, mkWord_eq_ofNat]
  · exact ⟨memRead16_eq_error.mpr (.inl ⟨h, rfl⟩), by simp [memWrite16, memWrite, h]⟩
  · exact ⟨memRead16_eq_error.mpr (.inr ⟨h0, h1, rfl⟩), by simp [memWrite16, memWrite, h0, h1]⟩

end Sys2Proof.Machine

/-! ## The stack (R61-R64) -/

namespace Sys2Proof.Machine

/-! ### Flags as numbers (R37, R150) -/

/-- `SetZN` in numbers (R150). -/
theorem setZN_eq_zeroNegative (f : Flags) (v : Byte) : f.setZN v = f.zeroNegative v := by
  rw [Flags.setZN, Flags.zeroNegative, beq_zero, bitAt_seven]

/-- `UnpackP` in numbers (R37). -/
theorem unpack_eq_testBit (f : Flags) (p : Byte) : f.unpack p =
    { n := p.toNat.testBit 7, v := p.toNat.testBit 6, d := p.toNat.testBit 3,
      i := p.toNat.testBit 2, z := p.toNat.testBit 1, c := p.toNat.testBit 0, b := f.b } := rfl

/-! ### Stack cells as numbers -/

theorem sub_one_eq (b : Byte) : b - 1#8 = b + 255#8 := BitVec.sub_eq_add_neg ..

theorem sub_one_sub_one_eq (b : Byte) : b - 1#8 - 1#8 = b + 254#8 := by
  rw [sub_one_eq, sub_one_eq, BitVec.add_assoc]
  rfl

theorem add_one_add_one_eq (b : Byte) : b + 1#8 + 1#8 = b + 2#8 := BitVec.add_assoc ..

theorem add_two_add_one_eq (b : Byte) : b + 2#8 + 1#8 = b + 3#8 := BitVec.add_assoc ..

theorem ofNat_toNat_add (b : Byte) (n : Nat) :
    BitVec.ofNat 8 (b.toNat + n) = b + BitVec.ofNat 8 n := by
  rw [BitVec.ofNat_add, BitVec.ofNat_toNat, BitVec.setWidth_eq]

theorem stackCell_toNat (sp : Byte) : stackCell sp.toNat = stackAddr sp := by
  have := sp.isLt
  apply BitVec.eq_of_toNat_eq
  rw [toNat_stackAddr, stackCell, BitVec.toNat_ofNat]
  omega

/-- The stack cell `n` above (or, with 255 and 254, one and two below) the one SP designates. -/
theorem stackCell_toNat_add (sp : Byte) (n : Nat) :
    stackCell (sp.toNat + n) = stackAddr (sp + BitVec.ofNat 8 n) := by
  rw [← stackCell_toNat, BitVec.toNat_add, BitVec.toNat_ofNat, stackCell, stackCell]
  congr 2
  omega

theorem memRead_stackAddr (m : Memory) (sp : Byte) :
    memRead m (stackAddr sp) = .ok (peek m (stackAddr sp)) := memRead_of_mapped (mapped_stackAddr sp)

theorem stackAddr_ne_sub_one (sp : Byte) : stackAddr sp ≠ stackAddr (sp - 1#8) := by
  rw [ne_eq, stackAddr_inj, eq_sub_iff_add_eq, add_eq_left]
  decide

/-! ### Push and pull -/

/-- A push changes SP and memory. -/
theorem push_eq (v : Byte) (s : State) :
    push v s = { s with sp := BitVec.ofNat 8 (s.sp.toNat + 255), mem := (push v s).mem } := by
  rw [ofNat_toNat_add, ← sub_one_eq]
  rfl

section
variable {s : State} (h : Memory.wf s.mem)
include h

theorem memRead_push_self (v : Byte) : memRead (push v s).mem (stackAddr s.sp) = .ok v :=
  memRead_poke_self v h (mapped_stackAddr _)

theorem memRead_push_of_ne (v : Byte) {b : Word} (hb : b ≠ stackAddr s.sp) :
    memRead (push v s).mem b = memRead s.mem b := memRead_poke_of_ne v h hb

/-- A pull in a state with the SP and memory a push left gives the Byte pushed (R62, R63). -/
theorem pulledByte_of_push (v : Byte) {u : State} (hsp : u.sp = (push v s).sp)
    (hm : u.mem = (push v s).mem) : pulledByte u = v := by
  rw [pulledByte, hsp, hm, push_sp, sub_add_cancel, peek_push h, if_pos rfl]

/-- A Word is pushed high byte first (R64): its high byte is in the cell SP designated. -/
theorem memRead_push16_high (w : Word) :
    memRead (push16 w s).mem (stackAddr s.sp) = .ok (hiByte w) := by
  rw [push16, memRead_push_of_ne (wf_push h _) _ (stackAddr_ne_sub_one _), memRead_push_self h]

theorem memRead_push16_low (w : Word) :
    memRead (push16 w s).mem (stackAddr (s.sp - 1#8)) = .ok (loByte w) :=
  memRead_push_self (wf_push h (hiByte w)) (loByte w)

theorem memRead_push16_of_ne (w : Word) {b : Word} (hb : b ≠ stackAddr s.sp)
    (hb' : b ≠ stackAddr (s.sp - 1#8)) : memRead (push16 w s).mem b = memRead s.mem b := by
  rw [push16, memRead_push_of_ne (wf_push h _) _ hb', memRead_push_of_ne h _ hb]

/-- A pull of a Word in a state with the SP and memory a push of a Word left gives that Word (R64). -/
theorem pulledWord_of_push16 (w : Word) {u : State} (hsp : u.sp = (push16 w s).sp)
    (hm : u.mem = (push16 w s).mem) : pulledWord u = w := by
  have hlo : pulledByte u = loByte w := pulledByte_of_push (wf_push h _) _ hsp hm
  have hhi : pulledByte (pulled u) = hiByte w := by
    have hr := memRead_push16_high h w
    rw [memRead_stackAddr] at hr
    rw [pulledByte, pulled_mem, pulled_sp, hsp, hm, push16_sp, sub_add_cancel, sub_add_cancel]
    exact Except.ok.inj hr
  rw [pulledWord, hlo, hhi, mkWord_hiByte_loByte]

end

/-- Settles O15: the push's cell is the one the pull's increment comes back to. -/
theorem pushThenPullGivesTheByteBack : Obligations.PushThenPullGivesTheByteBack := by
  constructor
  · intro s v h
    rw [stackCell_toNat]
    refine ⟨push_eq v s, memRead_push_self h v, fun b hb => memRead_push_of_ne h v hb,
      pulledByte_of_push h v rfl rfl, ?_⟩
    rw [pulled, push_sp, sub_add_cancel]
    rfl
  · intro s
    rw [stackCell_toNat_add, ofNat_toNat_add]
    exact ⟨memRead_stackAddr _ _, rfl⟩

/-- Settles O16: the two bytes lie in two different stack cells. -/
theorem pushedWordComesBack : Obligations.PushedWordComesBack := by
  intro s w h
  rw [stackCell_toNat, stackCell_toNat_add, ← sub_one_eq, ← hiByte_eq_ofNat, ← loByte_eq_ofNat]
  refine ⟨memRead_push16_high h w, memRead_push16_low h w,
    fun b hb hb' => memRead_push16_of_ne h w hb hb', ?_, pulledWord_of_push16 h w rfl rfl, ?_⟩
  · rw [ofNat_toNat_add, push16_sp, sub_one_sub_one_eq]
  · exact State.ext rfl (by simp) rfl rfl rfl rfl rfl rfl

/-! ### JSR and RTS (R192, R193) -/

theorem exec_jsrAbs (op16 : Word) (s : State) :
    exec (.jsrAbs op16) s = .next ((push16 (s.pc - 1#16) s).setPc op16) := rfl

theorem exec_rts (s : State) :
    exec .rts s = .next ((pulled16 s).setPc (pulledWord s + 1#16)) := rfl

/-- `PC -16 1` as a number. -/
theorem toNat_sub_one (w : Word) : (w - 1#16).toNat = (w.toNat + 65535) % 65536 := by
  rw [BitVec.toNat_sub, BitVec.toNat_ofNat, Nat.add_comm]

/-- Settles O38: JSR is a push of `PC - 1`. -/
theorem jsrPushesItsLastByteAddress : Obligations.JsrPushesItsLastByteAddress := by
  refine ⟨encodedAs_of_perm (.refl _), fun s op16 h => ?_⟩
  simp only [← toNat_sub_one]
  rw [stackCell_toNat, stackCell_toNat_add, ← sub_one_eq, ofNat_toNat_add, ← sub_one_sub_one_eq,
    ← hiByte_eq_ofNat, ← loByte_eq_ofNat]
  exact ⟨(push16 (s.pc - 1#16) s).mem, rfl, memRead_push16_high h _, memRead_push16_low h _,
    fun b hb hb' => memRead_push16_of_ne h _ hb hb'⟩

/-- Settles O39: RTS is a pull of a Word. -/
theorem rtsGoesOnePastThePulledWord : Obligations.RtsGoesOnePastThePulledWord := by
  refine ⟨encodedAs_of_perm (.refl _), fun s => ⟨pulledByte s, pulledByte (pulled s), ?_, ?_, ?_⟩⟩
  · rw [stackCell_toNat_add]
    exact memRead_stackAddr _ _
  · rw [stackCell_toNat_add, ← add_one_add_one_eq]
    exact memRead_stackAddr _ _
  · have hpc : BitVec.ofNat 16 (((pulledByte (pulled s)).toNat * 256 +
        (pulledByte s).toNat + 1) % 65536) = pulledWord s + 1#16 := by
      apply BitVec.eq_of_toNat_eq
      simp [pulledWord]
    rw [hpc, ofNat_toNat_add, ← add_one_add_one_eq]
    rfl

/-- Settles O40: the Word pulled is `PC - 1`, and RTS adds the 1. -/
theorem rtsReturnsAfterJsr : Obligations.RtsReturnsAfterJsr := by
  intro s op16 h
  refine ⟨_, exec_jsrAbs op16 s, fun u hsp hm => ?_⟩
  rw [exec_rts, pulledWord_of_push16 h (s.pc - 1#16) hsp hm, sub_add_cancel]
  exact congrArg Host.Outcome.next (State.ext rfl (by simp [hsp]) rfl rfl rfl rfl rfl rfl)

/-! ### PHA, PHP, PLA, PLP, RTI (R210-R213, R222) -/

/-- Settles O42: PHA and PHP are a push of the Byte named. -/
theorem phaAndPhpPushOneByte : Obligations.PhaAndPhpPushOneByte := by
  refine ⟨encodedAs_of_perm (.refl _), encodedAs_of_perm (.refl _), fun s i v h hi => ?_⟩
  have hexec : exec i s = .next (push v s) := by
    rcases hi with ⟨rfl, rfl⟩ | ⟨rfl, hv⟩
    · rfl
    · have hpack : v = s.flags.pack := by
        rw [Flags.pack, ← hv, BitVec.ofNat_toNat, BitVec.setWidth_eq]
      rw [hpack]
      rfl
  rw [stackCell_toNat]
  exact ⟨_, hexec.trans (congrArg _ (push_eq v s)), memRead_push_self h v,
    fun b hb => memRead_push_of_ne h v hb⟩

/-- Settles O43: both pull the byte of the next stack cell. -/
theorem plaAndPlpPullOneByte : Obligations.PlaAndPlpPullOneByte := by
  refine ⟨encodedAs_of_perm (.refl _), encodedAs_of_perm (.refl _), fun s => ⟨pulledByte s, ?_⟩⟩
  rw [stackCell_toNat_add, ofNat_toNat_add, ← setZN_eq_zeroNegative, ← unpack_eq_testBit]
  exact ⟨memRead_stackAddr _ _, rfl, rfl⟩

/-- A PLP in a state with the SP and memory a PHP left gives the six flags back. -/
theorem exec_plp_of_push {s u : State} (h : Memory.wf s.mem) (hsp : u.sp = (push s.flags.pack s).sp)
    (hm : u.mem = (push s.flags.pack s).mem) :
    exec .plp u = .next { u with sp := s.sp, flags := { s.flags with b := u.flags.b } } := by
  have hexec : exec .plp u = .next ((pulled u).setFlags (u.flags.unpack (pulledByte u))) := rfl
  rw [hexec, pulledByte_of_push h s.flags.pack hsp hm, unpack_pack]
  exact congrArg Host.Outcome.next (State.ext rfl (by simp [hsp]) rfl rfl rfl rfl rfl rfl)

/-- Settles O44: the Byte pulled is the packed status. -/
theorem plpRestoresWhatPhpPushed : Obligations.PlpRestoresWhatPhpPushed :=
  fun s h => ⟨push s.flags.pack s, rfl, fun _ => exec_plp_of_push h rfl rfl⟩

/-- Settles O46: the status is pulled first, and then a Word. -/
theorem rtiPullsStatusThenPc : Obligations.RtiPullsStatusThenPc := by
  refine ⟨encodedAs_of_perm (.refl _), fun s => ⟨pulledByte s, pulledByte (pulled s),
    pulledByte (pulled (pulled s)), ?_⟩⟩
  simp only [stackCell_toNat_add, ofNat_toNat_add, ← add_two_add_one_eq, ← add_one_add_one_eq,
    ← unpack_eq_testBit, ← mkWord_eq_ofNat]
  exact ⟨memRead_stackAddr _ _, memRead_stackAddr _ _, memRead_stackAddr _ _, rfl⟩

end Sys2Proof.Machine

/-! ## The resolver (R100-R118) -/

namespace Sys2Proof

theorem zext16_eq_ofNat (b : Byte) : zext16 b = BitVec.ofNat 16 b.toNat := by
  have := b.isLt
  apply BitVec.eq_of_toNat_eq
  rw [toNat_zext16, BitVec.toNat_ofNat]
  omega

theorem zext16_add (a b : Byte) :
    zext16 (a + b) = BitVec.ofNat 16 ((a.toNat + b.toNat) % 256) := by
  rw [zext16_eq_ofNat, BitVec.toNat_add]

theorem add_zext16 (w : Word) (b : Byte) :
    w + zext16 b = BitVec.ofNat 16 ((w.toNat + b.toNat) % 65536) := by
  apply BitVec.eq_of_toNat_eq
  simp

/-- The branch target as an integer modulo 65536 (R111). -/
theorem add_sext16 (w : Word) (b : Byte) :
    w + sext16 b = BitVec.ofInt 16 (w.toNat + b.toInt) := by
  rw [BitVec.ofInt_add, BitVec.ofInt_natCast, BitVec.ofNat_toNat, BitVec.setWidth_eq]
  rfl

namespace Machine

/-- Settles O21: each formula is the mode's own, its words read as numbers. -/
theorem directModesFormTheirAddress : Obligations.DirectModesFormTheirAddress := by
  intro s op8 op16
  simp only [← zext16_eq_ofNat, ← zext16_add, ← add_zext16, ← add_sext16]
  refine ⟨rfl, rfl, rfl, fun n hn => ?_, rfl, rfl, rfl, rfl⟩
  rw [mapped_iff, BitVec.toNat_ofNat]
  omega

section
variable {m : Memory} {p : Word}

theorem memRead16_of_reads {lo hi : Byte} (h0 : memRead m p = .ok lo)
    (h1 : memRead m (p + 1#16) = .ok hi) : memRead16 m p = .ok (mkWord hi lo) := by
  simp only [memRead16, h0, h1]

theorem memRead16_of_error_low {e : Fault} (h0 : memRead m p = .error e) :
    memRead16 m p = .error e := by
  simp only [memRead16, h0]

theorem memRead16_of_error_high {lo : Byte} {e : Fault} (h0 : memRead m p = .ok lo)
    (h1 : memRead m (p + 1#16) = .error e) : memRead16 m p = .error e := by
  simp only [memRead16, h0, h1]

end

/-- The pointer modes: the Word at the pointer, and the index added (R112-R114). -/
theorem effectiveAddress_pointer {s : State} {op8 : Byte} {op16 : Word} {mode : AddrMode} {p : Word}
    {index : Nat} (h : (mode = .ind op16 ∧ p = op16 ∧ index = 0) ∨
      (mode = .indx op8 ∧ p = BitVec.ofNat 16 ((op8.toNat + s.x.toNat) % 256) ∧ index = 0) ∨
      (mode = .indy op8 ∧ p = BitVec.ofNat 16 op8.toNat ∧ index = s.y.toNat)) :
    effectiveAddress mode s =
      (memRead16 s.mem p).map fun w => BitVec.ofNat 16 ((w.toNat + index) % 65536) := by
  have hid : (fun w : Word => BitVec.ofNat 16 ((w.toNat + 0) % 65536)) = id := by
    funext w
    rw [Nat.add_zero, Nat.mod_eq_of_lt w.isLt, BitVec.ofNat_toNat, BitVec.setWidth_eq, id]
  rcases h with ⟨rfl, rfl, rfl⟩ | ⟨rfl, rfl, rfl⟩ | ⟨rfl, rfl, rfl⟩
  · rw [hid, Except.map_id]; rfl
  · rw [hid, Except.map_id, ← zext16_add]; rfl
  · simp only [← zext16_eq_ofNat, ← add_zext16, effectiveAddress]
    cases memRead16 s.mem (zext16 op8) <;> rfl

/-- Settles O22: by the two reads of the pointer. -/
theorem pointerModesReadTheirPointer : Obligations.PointerModesReadTheirPointer := by
  intro s op8 op16 mode p index h
  rw [effectiveAddress_pointer h]
  refine ⟨fun lo hi h0 h1 => ?_, fun e h0 => ?_, fun lo e h0 h1 => ?_⟩
  · rw [memRead16_of_reads h0 h1, ← toNat_mkWord]; rfl
  · rw [memRead16_of_error_low h0]; rfl
  · rw [memRead16_of_error_high h0 h1]; rfl

/-! ### Forms that complete in every state (R61, R118, R234) -/

/-- The formats that reach no unmapped address. -/
abbrev safeFormats : List Format := [.imp, .acc, .imm, .zp, .zpx, .zpy, .rel]

/-- Of the safe formats a memory operand that is no branch target has, each is a zero-page one. -/
theorem mapped_effectiveAddress {m : Mnemonic} {mode : AddrMode} (hm : .rel ∉ m.formats)
    (hw : mode.format ∈ m.formats) (hf : mode.format ∈ safeFormats) (s : State) :
    ∃ ea, effectiveAddress mode s = .ok ea ∧ mapped ea = true := by
  cases mode with
  | zp | zpx | zpy => exact ⟨_, rfl, mapped_zext16 _⟩
  | rel => exact absurd hw hm
  | abs | absx | absy | ind | indx | indy => simp [AddrMode.format] at hf

theorem resolveValue_completes {m : Mnemonic} {src : ValueSource} (hm : .rel ∉ m.formats)
    (hw : (Operand.value src).format ∈ m.formats) (hf : (Operand.value src).format ∈ safeFormats)
    (s : State) : ∃ v, resolveValue src s = .ok v := by
  cases src with
  | imm op8 => exact ⟨op8, rfl⟩
  | mem mode =>
    obtain ⟨ea, hea, hmap⟩ := mapped_effectiveAddress hm hw hf s
    exact ⟨_, resolveValue_mem_eq_ok.mpr ⟨ea, hea, hmap, rfl⟩⟩

/-- Every rule over an operand of a safe format, or over the absolute target of JMP and JSR,
completes. -/
theorem completes_of_performOf {op : Operation} {s : State} {r : StepResult}
    (hw : op.operand.format ∈ op.mnemonic.formats)
    (hf : op.operand.format ∈ safeFormats ∨
      ((op.mnemonic = .jmp ∨ op.mnemonic = .jsr) ∧ op.operand.format = .abs))
    (h : performOf op s = some r) : ∃ t, r = .next t := by
  obtain ⟨m, operand⟩ := op
  cases m <;> cases operand <;> simp only [performOf, reduceCtorEq, Option.some.injEq] at h <;>
    subst h
  case sta.location | stx.location | sty.location =>
    obtain ⟨ea, hea, hmap⟩ := mapped_effectiveAddress (by simp [Mnemonic.formats]) hw
      (hf.resolve_right (by simp)) s
    exact ⟨_, storeByte_eq_next.mpr ⟨ea, hea, hmap, rfl⟩⟩
  case asl.location | lsr.location | rol.location | ror.location | inc.location | dec.location =>
    obtain ⟨ea, hea, hmap⟩ := mapped_effectiveAddress (by simp [Mnemonic.formats]) hw
      (hf.resolve_right (by simp)) s
    exact ⟨_, modifyByte_eq_next.mpr ⟨ea, hea, hmap, rfl⟩⟩
  case lda.value | ldx.value | ldy.value | adc.value | sbc.value | and.value | ora.value |
      eor.value | cmp.value | cpx.value | cpy.value | bit.value =>
    obtain ⟨v, hv⟩ := resolveValue_completes (by simp [Mnemonic.formats]) hw
      (hf.resolve_right (by simp)) s
    exact ⟨_, withValue_eq_next.mpr ⟨v, hv, rfl⟩⟩
  case jmp.location mode | jsr.location mode | bcc.location mode | bcs.location mode |
      beq.location mode | bne.location mode | bmi.location mode | bpl.location mode |
      bvc.location mode | bvs.location mode =>
    have hind : mode.format ≠ .ind := fun h => by simp [Operand.format, h] at hf
    obtain ⟨ea, hea⟩ := effectiveAddress_eq_ok hind s
    exact ⟨_, withAddress_eq_next.mpr ⟨ea, hea, rfl⟩⟩
  all_goals exact ⟨_, rfl⟩

/-- Settles O24: each mnemonic has rows only in its own formats, and of these the safe ones reach the
zero page, the stack or no memory. -/
theorem zeroPageStackAndRegisterFormsComplete :
    Obligations.ZeroPageStackAndRegisterFormsComplete :=
  fun i s hf => completes_of_performOf i.format_mem hf (performOf_operation i s)

end Machine
end Sys2Proof

/-! ## The rules of the instructions (spec files 41 to 45) -/

namespace Sys2Proof.Machine

/-! ### Loads, stores, transfers, flags -/

/-- Settles O25: each load is `withValue` of its register and `SetZN`. -/
theorem loadsWriteTheirRegister : Obligations.LoadsWriteTheirRegister := by
  simp only [Obligations.LoadsWriteTheirRegister, ← setZN_eq_zeroNegative]
  exact ⟨encodedAs_of_perm (.refl _), encodedAs_of_perm (.refl _), encodedAs_of_perm (.refl _),
    valueRule_of (by decide) fun _ _ => rfl, valueRule_of (by decide) fun _ _ => rfl,
    valueRule_of (by decide) fun _ _ => rfl⟩

/-- Settles O26: each store is `storeByte` of its register. -/
theorem storesWriteTheirRegister : Obligations.StoresWriteTheirRegister :=
  ⟨encodedAs_of_perm (.refl _), encodedAs_of_perm (.refl _), encodedAs_of_perm (.refl _),
    storeRule_of (by decide) (by decide) (by decide) fun _ _ => rfl,
    storeRule_of (by decide) (by decide) (by decide) fun _ _ => rfl,
    storeRule_of (by decide) (by decide) (by decide) fun _ _ => rfl⟩

/-- Settles O27: each transfer is one register update, and `SetZN` in all but TXS. -/
theorem transfersCopyARegister : Obligations.TransfersCopyARegister := by
  simp only [Obligations.TransfersCopyARegister, ← setZN_eq_zeroNegative]
  exact ⟨encodedAs_of_perm (.refl _), encodedAs_of_perm (.refl _), encodedAs_of_perm (.refl _),
    encodedAs_of_perm (.refl _), encodedAs_of_perm (.refl _), encodedAs_of_perm (.refl _),
    fun _ => ⟨rfl, rfl, rfl, rfl, rfl, rfl⟩⟩

/-- Settles O45: each flag instruction is one flag update. -/
theorem flagInstructionsWriteOneFlag : Obligations.FlagInstructionsWriteOneFlag :=
  ⟨encodedAs_of_perm (.refl _), encodedAs_of_perm (.refl _), encodedAs_of_perm (.refl _),
    encodedAs_of_perm (.refl _), encodedAs_of_perm (.refl _), encodedAs_of_perm (.refl _),
    encodedAs_of_perm (.refl _), encodedAs_of_perm (.refl _),
    fun _ => ⟨rfl, rfl, rfl, rfl, rfl, rfl, rfl, rfl⟩⟩

/-- Settles O47: 0x00 finds the row of BRK, which has no operand to fetch. -/
theorem brkHaltsAndDoesNothingElse : Obligations.BrkHaltsAndDoesNothingElse := by
  refine ⟨encodedAs_brk, fun _ => rfl, fun s hr h => ?_⟩
  rw [step_of_fetch hr (fetchAt_of_lookup h lookup_zero)]
  rfl

/-! ### Arithmetic (R150-R153, R161) -/

/-- The overflow formula compares sign bits. -/
theorem xor_and_xor_sign_iff (x y z w : Byte) :
    (x ^^^ y) &&& (z ^^^ w) &&& 0x80#8 ≠ 0x00#8 ↔ x.msb ≠ y.msb ∧ z.msb ≠ w.msb := by
  have hmask : ∀ v : Byte, v &&& 0x80#8 ≠ 0x00#8 ↔ v.msb = true := by decide
  rw [hmask, BitVec.msb_and, BitVec.msb_xor, BitVec.msb_xor, Bool.and_eq_true, bne_iff_ne, bne_iff_ne]

theorem ofNat_mod_256 (n : Nat) : BitVec.ofNat 8 (n % 256) = BitVec.ofNat 8 n := by
  apply BitVec.eq_of_toNat_eq
  simp

/-- The bit formula of the overflow law tells that the signed sum is out of range (R161). -/
theorem overflow_iff_signed_sum (a m : Byte) (c : Bool) :
    let res : Byte := BitVec.ofNat 8 ((a.toNat + m.toNat + c.toNat) % 256)
    let signed : Int := a.toInt + m.toInt + c.toNat
    ((a ^^^ res) &&& (m ^^^ res) &&& 0x80#8 ≠ 0x00#8 ↔ signed < -128 ∨ 127 < signed) := by
  intro res signed
  have ha := a.isLt
  have hm := m.isLt
  have hc := c.toNat_le
  have hr : res.toNat = (a.toNat + m.toNat + c.toNat) % 256 := by simp [res]
  simp only [xor_and_xor_sign_iff, signed, BitVec.msb_eq_decide, BitVec.toInt_eq_toNat_cond, hr,
    ne_eq, decide_eq_decide]
  split <;> split <;> omega

/-- The same of the signed difference with borrow (R153). -/
theorem overflow_iff_signed_difference (a m : Byte) (c : Bool) :
    let res : Byte := BitVec.ofInt 8 (a.toNat - m.toNat - (1 - c.toNat))
    let signed : Int := a.toInt - m.toInt - (1 - c.toNat)
    ((a ^^^ m) &&& (a ^^^ res) &&& 0x80#8 ≠ 0x00#8 ↔ signed < -128 ∨ 127 < signed) := by
  intro res signed
  have ha := a.isLt
  have hm := m.isLt
  have hc := c.toNat_le
  have hr : (res.toNat : Int) = (a.toNat - m.toNat - (1 - c.toNat)) % 256 := by
    simp [res, Int.emod_nonneg]
  simp only [xor_and_xor_sign_iff, signed, BitVec.msb_eq_decide, BitVec.toInt_eq_toNat_cond,
    ne_eq, decide_eq_decide]
  split <;> split <;> omega

/-- The overflow formula of a sum with the complement is the one of the difference. -/
theorem overflow_complement_iff (a m r : Byte) :
    (a ^^^ r) &&& (complement m ^^^ r) &&& 0x80#8 ≠ 0x00#8 ↔
      (a ^^^ m) &&& (a ^^^ r) &&& 0x80#8 ≠ 0x00#8 := by
  have hc : (complement m).msb = !m.msb := by
    rw [complement, BitVec.msb_xor]
    exact Bool.xor_true _
  rw [xor_and_xor_sign_iff, xor_and_xor_sign_iff, hc]
  cases a.msb <;> cases m.msb <;> cases r.msb <;> decide

/-- `SetZN` of the low byte of a number. -/
theorem setZN_ofNat (f : Flags) (n : Nat) : f.setZN (BitVec.ofNat 8 n) =
    { f with z := decide (n % 256 = 0), n := decide (128 ≤ n % 256) } := by
  rw [setZN_eq_zeroNegative, Flags.zeroNegative, BitVec.toNat_ofNat]

/-- ADC's flags in numbers (R152). -/
theorem afterAdd_eq (f : Flags) (a m : Byte) : f.afterAdd a m =
    { f with
      c := decide (255 < addSum a m f.c)
      v := decide ((a ^^^ addByte a m f.c) &&& (m ^^^ addByte a m f.c) &&& 0x80#8 ≠ 0x00#8)
      z := decide (addSum a m f.c % 256 = 0)
      n := decide (128 ≤ addSum a m f.c % 256) } := by
  rw [Flags.afterAdd, addByte, setZN_ofNat, addOverflow, decide_not]
  rfl

/-- Settles O28: `addSum` is the sum, and its low byte is the result. -/
theorem adcAddsWithCarry : Obligations.AdcAddsWithCarry := by
  refine ⟨encodedAs_of_perm (.refl _), ?_, overflow_iff_signed_sum⟩
  simp only [ofNat_mod_256]
  refine valueRule_of (by decide) fun src s => ?_
  have h : performOf ⟨.adc, .value src⟩ s = some (performAdc src s) := rfl
  rw [h, performAdc]
  simp only [afterAdd_eq]
  rfl

theorem toNat_complement (m : Byte) : (complement m).toNat = 255 - m.toNat := by
  revert m
  decide

/-- SBC's sum with the complement is the difference and 256 (R153). -/
theorem addSum_complement (a m : Byte) (c : Bool) :
    (addSum a (complement m) c : Int) = a.toNat - m.toNat - (1 - c.toNat) + 256 := by
  have := m.isLt
  rw [addSum, toNat_complement]
  omega

theorem addByte_complement (a m : Byte) (c : Bool) :
    addByte a (complement m) c = BitVec.ofInt 8 (a.toNat - m.toNat - (1 - c.toNat)) := by
  rw [addByte, ← BitVec.ofInt_natCast, addSum_complement, BitVec.ofInt_add]
  exact BitVec.add_zero _

/-- SBC's flags in numbers (R153). -/
theorem afterAdd_complement (f : Flags) (a m : Byte) :
    let diff : Int := a.toNat - m.toNat - (1 - f.c.toNat)
    let res : Byte := BitVec.ofInt 8 diff
    f.afterAdd a (complement m) =
    { f with
      c := decide (0 ≤ diff)
      v := decide ((a ^^^ m) &&& (a ^^^ res) &&& 0x80#8 ≠ 0x00#8)
      z := decide (diff % 256 = 0)
      n := decide (128 ≤ diff % 256) } := by
  intro diff res
  have hsum : (addSum a (complement m) f.c : Int) = diff + 256 := addSum_complement a m f.c
  have hc : 255 < addSum a (complement m) f.c ↔ 0 ≤ diff := by omega
  have hz : addSum a (complement m) f.c % 256 = 0 ↔ diff % 256 = 0 := by omega
  have hn : 128 ≤ addSum a (complement m) f.c % 256 ↔ 128 ≤ diff % 256 := by omega
  simp only [afterAdd_eq, addByte_complement, overflow_complement_iff, hc, hz, hn, diff, res]

/-- Settles O29: adding the complement is subtracting, up to 256. -/
theorem sbcSubtractsWithBorrow : Obligations.SbcSubtractsWithBorrow := by
  refine ⟨encodedAs_of_perm (.refl _), ?_, overflow_iff_signed_difference⟩
  refine valueRule_of (by decide) fun src s => ?_
  have h : performOf ⟨.sbc, .value src⟩ s = some (performSbc src s) := rfl
  rw [h, performSbc]
  simp only [afterAdd_complement, addByte_complement]
  rfl

/-! ### Logic -/

/-- Settles O30: each is `withValue` of A and `SetZN`. -/
theorem logicCombinesWithA : Obligations.LogicCombinesWithA := by
  simp only [Obligations.LogicCombinesWithA, ← setZN_eq_zeroNegative]
  exact ⟨encodedAs_of_perm (.refl _), encodedAs_of_perm (.refl _), encodedAs_of_perm (.refl _),
    valueRule_of (by decide) fun _ _ => rfl, valueRule_of (by decide) fun _ _ => rfl,
    valueRule_of (by decide) fun _ _ => rfl⟩

/-! ### Compare and bit test (R157-R160) -/

/-- A compare's flags in numbers (R157). -/
theorem afterCompare_eq (f : Flags) (r m : Byte) : f.afterCompare r m =
    { f with
      c := decide (m.toNat ≤ r.toNat)
      z := decide (r = m)
      n := decide (128 ≤ (r.toNat + (256 - m.toNat)) % 256) } := by
  rw [Flags.afterCompare, bitAt_seven, BitVec.toNat_sub, Nat.add_comm (2 ^ 8 - m.toNat)]
  rfl

/-- Settles O31: each compare is `withValue` of `afterCompare` and its register. -/
theorem comparesSetCarryZeroNegative : Obligations.ComparesSetCarryZeroNegative := by
  refine ⟨encodedAs_of_perm (.refl _), encodedAs_of_perm (.refl _), encodedAs_of_perm (.refl _),
    fun mn reg h => ?_⟩
  simp only [← afterCompare_eq]
  rcases h with ⟨rfl, rfl⟩ | ⟨rfl, rfl⟩ | ⟨rfl, rfl⟩ <;> exact valueRule_of (by decide) fun _ _ => rfl

/-- Settles O32: BIT is `withValue` of `afterBit`. -/
theorem bitTestsTheOperand : Obligations.BitTestsTheOperand := by
  refine ⟨encodedAs_of_perm (.refl _), ?_⟩
  simp only [← bitAt_seven, ← bitAt_six]
  exact valueRule_of (by decide) fun _ _ => rfl

/-! ### Shifts and rotates (R170-R174) -/

theorem aslByte_eq (v : Byte) : aslByte v = BitVec.ofNat 8 (2 * v.toNat % 256) := by
  revert v
  decide

theorem lsrByte_eq (v : Byte) : lsrByte v = BitVec.ofNat 8 (v.toNat / 2) := by
  revert v
  decide

theorem rolByte_eq (v : Byte) (c : Bool) :
    rolByte v c = BitVec.ofNat 8 ((2 * v.toNat + c.toNat) % 256) := by
  revert v c
  decide

theorem rorByte_eq (v : Byte) (c : Bool) :
    rorByte v c = BitVec.ofNat 8 (v.toNat / 2 + 128 * c.toNat) := by
  revert v c
  decide

theorem afterShift_eq (f : Flags) (out : Bool) (r : Byte) :
    f.afterShift out r = ({ f with c := out } : Flags).zeroNegative r :=
  setZN_eq_zeroNegative _ _

/-- Settles O33: each is `modifyA` of its result and flags. -/
theorem accumulatorShiftsWriteA : Obligations.AccumulatorShiftsWriteA := by
  intro s
  simp only [← afterShift_eq, ← bitAt_seven, ← bitAt_zero, ← aslByte_eq, ← lsrByte_eq, ← rolByte_eq,
    ← rorByte_eq]
  exact ⟨rfl, rfl, rfl, rfl⟩

/-- Settles O34: each is `modifyByte` of its result and flags. -/
theorem memoryShiftsWriteTheirCell : Obligations.MemoryShiftsWriteTheirCell := by
  refine ⟨encodedAs_of_perm (.refl _), encodedAs_of_perm (.refl _), encodedAs_of_perm (.refl _),
    encodedAs_of_perm (.refl _), ?_⟩
  simp only [← afterShift_eq, ← bitAt_seven, ← bitAt_zero, ← aslByte_eq, ← lsrByte_eq, ← rolByte_eq,
    ← rorByte_eq]
  exact ⟨modifyRule_of (by decide) (by decide) fun _ _ => rfl,
    modifyRule_of (by decide) (by decide) fun _ _ => rfl,
    modifyRule_of (by decide) (by decide) fun _ _ => rfl,
    modifyRule_of (by decide) (by decide) fun _ _ => rfl⟩

/-! ### Increments and decrements (R175-R180) -/

theorem ofNat_add_one (v : Byte) : BitVec.ofNat 8 ((v.toNat + 1) % 256) = v + 1#8 := by
  rw [ofNat_mod_256, ofNat_toNat_add]

theorem ofNat_add_255 (v : Byte) : BitVec.ofNat 8 ((v.toNat + 255) % 256) = v - 1#8 := by
  rw [ofNat_mod_256, ofNat_toNat_add, sub_one_eq]

/-- Settles O35: each is `modifyByte` of one more or one less, and `SetZN`. -/
theorem incDecModifyTheirCell : Obligations.IncDecModifyTheirCell := by
  simp only [Obligations.IncDecModifyTheirCell, ofNat_add_one, ofNat_add_255,
    ← setZN_eq_zeroNegative]
  exact ⟨encodedAs_of_perm (.refl _), encodedAs_of_perm (.refl _),
    modifyRule_of (by decide) (by decide) fun _ _ => rfl,
    modifyRule_of (by decide) (by decide) fun _ _ => rfl⟩

/-- Settles O36: each is one register update and `SetZN`. -/
theorem indexIncDecModifyTheirRegister : Obligations.IndexIncDecModifyTheirRegister := by
  simp only [Obligations.IndexIncDecModifyTheirRegister, ofNat_add_one, ofNat_add_255,
    ← setZN_eq_zeroNegative]
  exact ⟨encodedAs_of_perm (.refl _), encodedAs_of_perm (.refl _), encodedAs_of_perm (.refl _),
    encodedAs_of_perm (.refl _), fun _ => ⟨rfl, rfl, rfl, rfl⟩⟩

/-! ### Jumps and branches -/

/-- Settles O37: JMP is `withAddress` of PC. -/
theorem jmpTakesTheEffectiveAddress : Obligations.JmpTakesTheEffectiveAddress :=
  ⟨encodedAs_of_perm (.refl _), gotoRule_of (by decide) (by decide) fun _ _ => rfl⟩

/-- A branch in numbers (R191): whatever its condition, it completes. -/
theorem branchIf_rel (cond : Bool) (op8 : Byte) (s : State) : branchIf cond (.rel op8) s =
    .next { s with pc := bif cond then BitVec.ofInt 16 (s.pc.toNat + op8.toInt) else s.pc } := by
  rw [branchIf_eq, ← add_sext16]
  rfl

/-- Settles O41: each branch is `branchIf` of its flag or of its flag's negation. -/
theorem branchesTestOneFlag : Obligations.BranchesTestOneFlag := by
  refine ⟨encodedAs_of_perm (.refl _), encodedAs_of_perm (.refl _), encodedAs_of_perm (.refl _),
    encodedAs_of_perm (.refl _), encodedAs_of_perm (.refl _), encodedAs_of_perm (.refl _),
    encodedAs_of_perm (.refl _), encodedAs_of_perm (.refl _), fun s op8 => ?_⟩
  simp only [Bool.decide_eq_true, Bool.decide_eq_false, ← branchIf_rel]
  exact ⟨rfl, rfl, rfl, rfl, rfl, rfl, rfl, rfl⟩

end Sys2Proof.Machine

/-! ## The host's side (R260-R269) -/

namespace Sys2Proof.Machine

/-! ### Bytes put from an address on -/

theorem add_ofNat_succ (addr : Word) (k : Nat) :
    addr + 1#16 + BitVec.ofNat 16 k = addr + BitVec.ofNat 16 (k + 1) := by
  rw [BitVec.ofNat_add, BitVec.add_assoc, BitVec.add_comm 1#16]

section
variable {m : Memory} {addr : Word} {bytes : List Byte}

/-- Putting bytes leaves every other address. -/
theorem memRead_pokeBytes_of_ne (hm : Memory.wf m)
    (ha : ∀ k < bytes.length, mapped (addr + BitVec.ofNat 16 k) = true) {b : Word}
    (hb : ∀ k < bytes.length, b ≠ addr + BitVec.ofNat 16 k) :
    memRead (pokeBytes m addr bytes) b = memRead m b := by
  induction bytes generalizing m addr with
  | nil => rfl
  | cons v bytes ih =>
    have ha0 : mapped addr = true := by simpa using ha 0 (by simp)
    have hb0 : b ≠ addr := by simpa using hb 0 (by simp)
    rw [pokeBytes, ih (wf_poke v ha0 hm), memRead_poke_of_ne v hm hb0]
    · exact fun k hk => add_ofNat_succ addr k ▸ ha (k + 1) (by simpa using hk)
    · exact fun k hk => add_ofNat_succ addr k ▸ hb (k + 1) (by simpa using hk)

/-- Bytes put read back, where they do not go round memory and meet. -/
theorem memRead_pokeBytes (hm : Memory.wf m) (hl : bytes.length ≤ 65536)
    (ha : ∀ k < bytes.length, mapped (addr + BitVec.ofNat 16 k) = true) {k : Nat}
    (hk : k < bytes.length) :
    memRead (pokeBytes m addr bytes) (addr + BitVec.ofNat 16 k) = .ok (bytes.getD k 0x00#8) := by
  induction bytes generalizing m addr k with
  | nil => simp at hk
  | cons v bytes ih =>
    have ha0 : mapped addr = true := by simpa using ha 0 (by simp)
    have ha' : ∀ k < bytes.length, mapped (addr + 1#16 + BitVec.ofNat 16 k) = true :=
      fun k hk => add_ofNat_succ addr k ▸ ha (k + 1) (by simpa using hk)
    have hwf := wf_poke v ha0 hm
    rw [List.length_cons] at hl hk
    cases k with
    | zero =>
      have hne : ∀ j < bytes.length, addr ≠ addr + 1#16 + BitVec.ofNat 16 j := by
        intro j hj he
        rw [add_ofNat_succ, left_eq_add, ← BitVec.toNat_inj, BitVec.toNat_ofNat] at he
        simp at he
        omega
      rw [BitVec.add_zero, pokeBytes, memRead_pokeBytes_of_ne hwf ha' hne, memRead_poke_self v hm ha0]
      rfl
    | succ k =>
      rw [← add_ofNat_succ, pokeBytes, ih hwf (by omega) ha' (by omega)]
      rfl

end

/-! ### Load, start, start_from -/

section
variable {s : State}

theorem isRunning_of_ne (hr : s.run ≠ .running) : s.isRunning = false := by
  simpa [State.isRunning] using hr

theorem isRunning_of_eq (hr : s.run = .running) : s.isRunning = true := by
  simp [State.isRunning, hr]

/-- Where Load puts byte `k`. -/
theorem mapped_loadEntry_add {k : Nat} (hk : k < 0x8000) :
    mapped (Config.loadEntry + BitVec.ofNat 16 k) = true := by
  rw [mapped_iff, BitVec.toNat_add, Config.loadEntry, BitVec.toNat_ofNat, BitVec.toNat_ofNat]
  omega

theorem loadEntry_add (k : Nat) :
    Config.loadEntry + BitVec.ofNat 16 k = BitVec.ofNat 16 (0x8000 + k) :=
  (BitVec.ofNat_add ..).symm

/-- The memory Load leaves: the bytes, and then the two bytes of the vector (R262). -/
def loadedMem (m : Memory) (bytes : List Byte) : Memory :=
  poke (poke (pokeBytes m Config.loadEntry bytes) 0xFFFC#16 0x00#8) 0xFFFD#16 0x80#8

theorem load_eq (hr : s.run ≠ .running) {bytes : List Byte} (hl : bytes.length ≤ 0x8000) :
    load bytes s = .next (s.setMem (loadedMem s.mem bytes)) := by
  have hw : memWrite16 (pokeBytes s.mem Config.loadEntry bytes) Config.resetVector Config.loadEntry =
      .ok (loadedMem s.mem bytes) := memWrite16_eq_ok.mpr ⟨by decide, by decide, rfl⟩
  have hl' : ¬ Config.romSize < bytes.length := Nat.not_lt.mpr hl
  rw [load, isRunning_of_ne hr, hw, if_neg (by decide), if_neg hl']

theorem load_of_too_long (hr : s.run ≠ .running) {bytes : List Byte} (hl : 0x8000 < bytes.length) :
    load bytes s = .refused (.loadTooLong bytes.length) := by
  have hl' : Config.romSize < bytes.length := hl
  rw [load, isRunning_of_ne hr, if_neg (by decide), if_pos hl']

theorem start_eq (hr : s.run ≠ .running) :
    start s = .next (startAt (mkWord (peek s.mem 0xFFFD#16) (peek s.mem 0xFFFC#16)) s) := by
  have hw : memRead16 s.mem Config.resetVector =
      .ok (mkWord (peek s.mem 0xFFFD#16) (peek s.mem 0xFFFC#16)) :=
    memRead16_eq_ok.mpr ⟨by decide, by decide, rfl⟩
  rw [start, isRunning_of_ne hr, hw, if_neg (by decide)]

theorem startFrom_eq (hr : s.run ≠ .running) (addr : Word) :
    startFrom addr s = .next (startAt addr s) := by
  rw [startFrom, isRunning_of_ne hr, if_neg (by decide)]

theorem load_of_running (hr : s.run = .running) (bytes : List Byte) :
    load bytes s = .refused .calledWhileRunning := by
  rw [load, if_pos (isRunning_of_eq hr)]

theorem start_of_running (hr : s.run = .running) : start s = .refused .calledWhileRunning := by
  rw [start, if_pos (isRunning_of_eq hr)]

theorem startFrom_of_running (hr : s.run = .running) (addr : Word) :
    startFrom addr s = .refused .calledWhileRunning := by
  rw [startFrom, if_pos (isRunning_of_eq hr)]

/-- Settles O55: both are `startAt`, and the vector's two cells are mapped. -/
theorem startResetsTheRegisters : Obligations.StartResetsTheRegisters := by
  intro s addr
  refine ⟨fun hr => ⟨⟨peek s.mem 0xFFFC#16, peek s.mem 0xFFFD#16, memRead_of_mapped (by decide),
    memRead_of_mapped (by decide), ?_⟩, startFrom_eq hr addr⟩,
    fun hr => ⟨start_of_running hr, startFrom_of_running hr addr, load_of_running hr⟩⟩
  rw [start_eq hr, mkWord_eq_ofNat]
  rfl

end

section
variable {m : Memory} {bytes : List Byte} (hm : Memory.wf m) (hl : bytes.length ≤ 0x8000)
include hm hl

theorem wf_pokeBytes_loadEntry : Memory.wf (pokeBytes m Config.loadEntry bytes) :=
  wf_pokeBytes bytes m _ (fun _ hk => mapped_loadEntry_add (hk.trans_le hl)) hm

theorem wf_loadedMem : Memory.wf (loadedMem m bytes) :=
  wf_poke _ (by decide) (wf_poke _ (by decide) (wf_pokeBytes_loadEntry hm hl))

/-- Away from the vector Load leaves the bytes it copied. -/
theorem memRead_loadedMem_of_ne {b : Word} (h0 : b ≠ 0xFFFC#16) (h1 : b ≠ 0xFFFD#16) :
    memRead (loadedMem m bytes) b = memRead (pokeBytes m Config.loadEntry bytes) b := by
  have hwf := wf_pokeBytes_loadEntry hm hl
  rw [loadedMem, memRead_poke_of_ne _ (wf_poke _ (by decide) hwf) h1, memRead_poke_of_ne _ hwf h0]

theorem memRead_loadedMem_vector :
    memRead (loadedMem m bytes) 0xFFFC#16 = .ok 0x00#8 ∧
      memRead (loadedMem m bytes) 0xFFFD#16 = .ok 0x80#8 := by
  have hwf := wf_pokeBytes_loadEntry hm hl
  have hwf' : Memory.wf (poke (pokeBytes m Config.loadEntry bytes) 0xFFFC#16 0x00#8) :=
    wf_poke _ (by decide) hwf
  refine ⟨?_, memRead_poke_self _ hwf' (by decide)⟩
  rw [loadedMem, memRead_poke_of_ne _ hwf' (by decide), memRead_poke_self _ hwf (by decide)]

end

/-- Settles O54: the copy writes each address once, and the vector's two writes come last. -/
theorem loadCopiesThenSetsTheVector : Obligations.LoadCopiesThenSetsTheVector := by
  intro bytes s hm hr
  refine ⟨fun hl => ⟨loadedMem s.mem bytes, load_eq hr hl, (memRead_loadedMem_vector hm hl).1,
    (memRead_loadedMem_vector hm hl).2, ?_, ?_⟩, load_of_too_long hr⟩
  · intro k hk h0 h1
    have hne : ∀ n < 0x8000, k ≠ n → BitVec.ofNat 16 (0x8000 + k) ≠ BitVec.ofNat 16 (0x8000 + n) := by
      intro n hn hkn he
      rw [← BitVec.toNat_inj, BitVec.toNat_ofNat, BitVec.toNat_ofNat] at he
      omega
    rw [memRead_loadedMem_of_ne hm hl (hne 0x7FFC (by decide) h0) (hne 0x7FFD (by decide) h1),
      ← loadEntry_add]
    exact memRead_pokeBytes hm (by omega) (fun j hj => mapped_loadEntry_add (hj.trans_le hl)) hk
  · intro addr h0 h1 hout
    rw [memRead_loadedMem_of_ne hm hl h0 h1]
    refine memRead_pokeBytes_of_ne hm (fun j hj => mapped_loadEntry_add (hj.trans_le hl)) ?_
    rintro k hk rfl
    rw [loadEntry_add, BitVec.toNat_ofNat] at hout
    omega

/-- Settles O19: the empty list is in canonical form, and its vector holds 0x0000. -/
theorem resetMeetsTheInvariant : Obligations.ResetMeetsTheInvariant :=
  ⟨⟨wf_nil, rfl⟩, start_eq (by decide), fun _ hm => ⟨hm, rfl⟩⟩

/-- Settles O20: Load writes mapped cells only, and a start clears every flag. -/
theorem hostCallsKeepTheInvariant : Obligations.HostCallsKeepTheInvariant := by
  intro s t hs
  by_cases hr : s.run = .running
  · refine ⟨fun bytes h => ?_, fun h => ?_, fun addr h => ?_⟩
    · cases (load_of_running hr bytes).symm.trans h
    · cases (start_of_running hr).symm.trans h
    · cases (startFrom_of_running hr addr).symm.trans h
  · refine ⟨fun bytes h => ?_, fun h => ?_, fun addr h => ?_⟩
    · by_cases hl : bytes.length ≤ 0x8000
      · cases (load_eq hr hl).symm.trans h
        exact ⟨wf_loadedMem hs.wf hl, hs.breakClear⟩
      · cases (load_of_too_long hr (Nat.lt_of_not_le hl)).symm.trans h
    · cases (start_eq hr).symm.trans h
      exact ⟨hs.wf, rfl⟩
    · cases (startFrom_eq hr addr).symm.trans h
      exact ⟨hs.wf, rfl⟩

/-! ### The run loop -/

section
variable {s t : State}

theorem runLoop_of_not_running (hr : s.run ≠ .running) (fuel : Nat) :
    runLoop fuel s = .stopped s := by
  cases fuel <;> simp [runLoop, isRunning_of_ne hr]

theorem runLoop_zero_of_running (hr : s.run = .running) : runLoop 0 s = .unfinished s := by
  simp [runLoop, isRunning_of_eq hr]

theorem runLoop_of_next (hr : s.run = .running) (h : step s = .next t) (fuel : Nat) :
    runLoop (fuel + 1) s = runLoop fuel t := by
  simp [runLoop, isRunning_of_eq hr, h]

theorem runLoop_of_fault {e : Fault} (hr : s.run = .running) (h : step s = .fault e) (fuel : Nat) :
    runLoop (fuel + 1) s = .faulted e (afterFault e s) := by
  simp [runLoop, isRunning_of_eq hr, h]

end

/-- Settles O57: by the equations of the run loop. -/
theorem runLoopStepsWhileRunning : Obligations.RunLoopStepsWhileRunning :=
  fun fuel _ => ⟨fun hr => runLoop_of_not_running hr fuel,
    fun hr => ⟨fun _ h => runLoop_of_next hr h fuel, fun _ h => runLoop_of_fault hr h fuel⟩⟩

/-- Settles O58: a step's fault of an opcode carries PC and the byte there. -/
theorem stateAfterAFault : Obligations.StateAfterAFault := by
  intro fuel s hr
  refine ⟨fun opc pc h => ?_, fun addr h => runLoop_of_fault hr h fuel, fun i => rfl⟩
  obtain ⟨-, ⟨opc', hopc, -, ⟨⟩⟩ | ⟨addr, -, he⟩⟩ := step_eq_fault h
  · exact ⟨rfl, hopc, runLoop_of_fault hr h fuel⟩
  · cases he

/-- More fuel changes no run that has ended: by induction on the fuel, each step spending one on both
sides. -/
theorem runLoop_add {fuel : Nat} {s : State} (h : ∀ t, runLoop fuel s ≠ .unfinished t)
    (more : Nat) : runLoop (fuel + more) s = runLoop fuel s := by
  induction fuel generalizing s with
  | zero =>
    by_cases hr : s.run = .running
    · exact absurd (runLoop_zero_of_running hr) (h s)
    · rw [runLoop_of_not_running hr, runLoop_of_not_running hr]
  | succ fuel ih =>
    by_cases hr : s.run = .running
    · rw [Nat.add_right_comm]
      cases hs : step s with
      | next t =>
        rw [runLoop_of_next hr hs] at h ⊢
        rw [runLoop_of_next hr hs, ih h]
      | fault e => rw [runLoop_of_fault hr hs, runLoop_of_fault hr hs]
      | refused r => exact absurd hs (step_ne_refused r)
    · rw [runLoop_of_not_running hr, runLoop_of_not_running hr]

/-- Settles O59: such a run is not unfinished. -/
theorem stoppedRunDoesNotDependOnFuel : Obligations.StoppedRunDoesNotDependOnFuel := by
  intro fuel more s
  refine ⟨fun t h => ?_, fun e u h => ?_⟩
  · rw [runLoop_add (fun t' => by simp [h]), h]
  · rw [runLoop_add (fun t' => by simp [h]), h]

end Sys2Proof.Machine
